-- ==== Sys2Proof/Word.lean ====
section
/-! DEFINITION. The words of the Practica-2 tick unit: one name for each width that spec R8 and R81 fix. Bit 0 is the
least significant bit of every register and of every encoding word (R10). -/

namespace Sys2Proof

/-- The value of the shared cell and of the two temporaries: `PT_WIDTH = 32` bits (R8). -/
abbrev Count := BitVec 32

/-- A sample of the port `now_ms`, and a latched copy of one: `CLK_WIDTH = 32` bits (R8). -/
abbrev Millis := BitVec 32

/-- The half-period register: `PER_WIDTH = 16` bits (R8). -/
abbrev Period := BitVec 16

/-- The alarm value register: `AV_WIDTH = 32` bits (R8). -/
abbrev AlarmTicks := BitVec 32

/-- A sequencer code of the MAIN agent: `MS_WIDTH = 4` bits (R8). -/
abbrev MainCode := BitVec 4

/-- A sequencer code of the ISR agent: `IS_WIDTH = 3` bits (R8). -/
abbrev IsrCode := BitVec 3

/-- The fault register: 3 bits (R32). -/
abbrev FaultBits := BitVec 3

/-- A step code: agent and micro-operation, 6 bits (R80). -/
abbrev StepCode := BitVec 6

/-- A trace word: a step code with the inputs the step sampled, 40 bits (R81). -/
abbrev TraceWord := BitVec 40

end Sys2Proof
end

