-- ==== Sys2Proof/Config.lean ====
section
/-! DEFINITION. What an implementation fixes: the parameters of R6 to R8 with their defaults, the sequencer and fault
codes of R23, R24 and R32, and the values that the spec leaves open, each an opaque constant without a body, of which
nothing can be proved. -/

namespace Sys2Proof

/-- Depth of the pending-interrupt record (R8, R30, R232). -/
inductive IpMode where
  /-- Every alarm is remembered: the normative mode. -/
  | count
  /-- At most one alarm is remembered: the mode that exhibits the hazard of R232. -/
  | latch
  deriving DecidableEq, Repr, Inhabited

/-- How the timer of the timed refinement compares its count with the alarm value (R8, R102). -/
inductive AlarmCompare where
  /-- It fires when the count reaches or has passed the alarm value. -/
  | ge
  /-- It fires only when the count equals the alarm value. -/
  | eq
  deriving DecidableEq, Repr, Inhabited

/-- The parameters that have defaults (R6, R8), with the constants of R7. `FIRST_PRESS` has the one value `accept` (R8)
and is therefore no field. -/
structure Params where
  /-- Shortest half-period in milliseconds. -/
  floorMs : Nat := 100
  /-- Longest half-period in milliseconds. -/
  ceilMs : Nat := 2000
  /-- Change of the half-period for one accepted press. -/
  stepMs : Nat := 50
  /-- Debounce window in milliseconds. -/
  windowMs : Nat := 200
  /-- Half-period at reset. -/
  defaultMs : Nat := 500
  /-- Timer ticks in one millisecond. -/
  usPerMs : Nat := 1000
  /-- Microseconds in one timer tick. -/
  tickUnitUs : Nat := 1
  /-- Width of the period register. -/
  perWidth : Nat := 16
  /-- Width of the alarm value register. -/
  avWidth : Nat := 32
  /-- Width of the millisecond clock. -/
  clkWidth : Nat := 32
  /-- Depth of the pending-interrupt record. -/
  ipMode : IpMode := .count
  deriving DecidableEq, Repr

namespace Config

/-- The parameters of this unit: the defaults of R6 and R8 (log 7, log 8, log 9). -/
def params : Params := {}

/-! ### Open parameters (R8, R34): each implementation decides, so no value can be proved of them. -/

/-- `TC_WIDTH`, OPEN: the width of the timer count (log 5). -/
opaque tcWidth : Nat

/-- `ALARM_COMPARE`, OPEN (log 5). -/
opaque alarmCompare : AlarmCompare

/-- `SETALARM_RESETS_COUNT`, OPEN (log 5). -/
opaque setAlarmResetsCount : Bool

/-- `PIN_OUT`, OPEN, read by no rule (R8, log 17). -/
opaque pinOut : Nat

/-- `PIN_INC`, OPEN, read by no rule (R8, log 17). -/
opaque pinInc : Nat

/-- `PIN_DEC`, OPEN, read by no rule (R8, log 17). -/
opaque pinDec : Nat

/-- `TIMER_UNIT_INDEX`, OPEN, read by no rule (R34, log 17). -/
opaque timerUnitIndex : Nat

/-- `TIMER_DIVISOR`, OPEN, read by no rule (R34, log 17). -/
opaque timerDivisor : Nat

/-- `TIMER_COUNT_UP`, OPEN, read by no rule (R34, log 17). -/
opaque timerCountUp : Bool

/-- `ISR_EDGE_TRIGGERED`, OPEN, read by no rule (R34, log 17). -/
opaque isrEdgeTriggered : Bool

/-! ### Free values (R13, R45, R46, 93 U6, U7, U12, U16, U17), indexed by the counter `draws` of the state. -/

/-- What a read of `TM` gives while nothing has written it (93 U6, log 2). -/
opaque unwrittenTm : Nat → Count

/-- What a read of `TI` gives while nothing has written it (93 U6, log 2). -/
opaque unwrittenTi : Nat → Count

/-- What a read of `AV` gives while nothing has written it (93 U6, log 2). -/
opaque unwrittenAv : Nat → AlarmTicks

/-- What a read of `AR` gives while nothing has written it (93 U6, log 2). -/
opaque unwrittenAr : Nat → Bool

/-- What a read of `LA[INC]` gives while nothing has written it (93 U6, log 2). -/
opaque unwrittenLaInc : Nat → Millis

/-- What a read of `LA[DEC]` gives while nothing has written it (93 U6, log 2). -/
opaque unwrittenLaDec : Nat → Millis

/-- The level of the output pin while nothing has driven it (93 U7, log 2). -/
opaque undrivenPin : Nat → Bool

/-- The scheduler's choice among the agents that have an enabled step (R14, 93 U17, log 3). -/
opaque scheduler : Nat → Nat

/-- The level on `btn_inc_n` or `btn_dec_n` at a free step, high (released) being true (R46, log 4). -/
opaque buttonLevel : Nat → Bool

/-- The level on `platform_ok` at a free step (R47, log 4). -/
opaque platformOk : Nat → Bool

/-- By how many milliseconds the true time `T` advances before a free step (R45, log 4). -/
opaque clockAdvance : Nat → Nat

end Config

/-! ### Codes of the MAIN sequencer (R23) -/

namespace Ms

/-- `POLL`. -/
@[simp] abbrev poll : MainCode := 0#4
/-- `CS_ENTER`. -/
@[simp] abbrev csEnter : MainCode := 1#4
/-- `LOAD`. -/
@[simp] abbrev load : MainCode := 2#4
/-- `DEC`. -/
@[simp] abbrev dec : MainCode := 3#4
/-- `STORE`. -/
@[simp] abbrev store : MainCode := 4#4
/-- `CS_EXIT`. -/
@[simp] abbrev csExit : MainCode := 5#4
/-- `TOGGLE`. -/
@[simp] abbrev toggle : MainCode := 6#4
/-- `DB_INC`. -/
@[simp] abbrev dbInc : MainCode := 7#4
/-- `DB_DEC`. -/
@[simp] abbrev dbDec : MainCode := 8#4
/-- `SET_ALARM`. -/
@[simp] abbrev setAlarm : MainCode := 9#4
/-- `INIT_TMR`. -/
@[simp] abbrev initTmr : MainCode := 10#4
/-- `INIT_ALARM`. -/
@[simp] abbrev initAlarm : MainCode := 11#4
/-- `INIT_EN`. -/
@[simp] abbrev initEn : MainCode := 12#4
/-- `HALT`. -/
@[simp] abbrev halt : MainCode := 15#4

end Ms

/-! ### Codes of the ISR sequencer (R24) -/

namespace Is

/-- Idle: the next ISR micro-operation is `I_ENTER`. -/
@[simp] abbrev idle : IsrCode := 0#3
/-- `I_CS_ENTER`. -/
@[simp] abbrev csEnter : IsrCode := 1#3
/-- `I_LOAD`. -/
@[simp] abbrev load : IsrCode := 2#3
/-- `I_INC`. -/
@[simp] abbrev inc : IsrCode := 3#3
/-- `I_STORE`. -/
@[simp] abbrev store : IsrCode := 4#3
/-- `I_CS_EXIT`. -/
@[simp] abbrev csExit : IsrCode := 5#3
/-- `I_RET`. -/
@[simp] abbrev ret : IsrCode := 6#3

end Is

/-- The four fault causes of the unit (R32, R182 to R185). -/
inductive FaultCause where
  /-- Timer or pin configuration failed at startup (R182). -/
  | startupFail
  /-- An increment of the largest counter value (R183). -/
  | ptOverflow
  /-- A decrement of zero (R184). -/
  | ptUnderflow
  /-- A sequencer register holds a reserved value (R185). -/
  | illegalState
  deriving DecidableEq, Repr

/-- The code that `raise` writes to `FLT` (R32). -/
def FaultCause.code : FaultCause → FaultBits
  | .startupFail => 1#3
  | .ptOverflow => 2#3
  | .ptUnderflow => 3#3
  | .illegalState => 4#3

end Sys2Proof
end

