-- ==== Sys2Proof/Syntax.lean ====
section
/-! DEFINITION. The instructions: one constructor for each of the 24 micro-operations of R86 to R88 (the rows of
spec/opcode_table.json), in the table's order; the reasons a trace word is reserved; and the pseudo-instructions. -/

namespace Sys2Proof

/-- A micro-operation with the inputs it samples (R81). `lvl` is a button level, high (released) being true; `ok` is the
level of `platform_ok`; `now` is the sample of `now_ms`. -/
inductive Instr where
  /-- `POLL` (R142). -/
  | poll
  /-- `CS_ENTER` (R143). -/
  | csEnter
  /-- `LOAD` (R144). -/
  | load
  /-- `DEC` (R145). -/
  | dec
  /-- `STORE` (R146). -/
  | store
  /-- `CS_EXIT` (R147). -/
  | csExit
  /-- `TOGGLE` (R148). -/
  | toggle
  /-- `DB_INC` (R163). -/
  | dbInc (lvl : Bool) (now : Millis)
  /-- `DB_DEC` (R164). -/
  | dbDec (lvl : Bool) (now : Millis)
  /-- `SET_ALARM` (R106). -/
  | setAlarm
  /-- `INIT_TMR` (R103). -/
  | initTmr (ok : Bool)
  /-- `INIT_ALARM` (R104). -/
  | initAlarm
  /-- `INIT_EN` (R105). -/
  | initEn
  /-- `HALT` (R149). -/
  | halt
  /-- `I_ENTER` (R120). -/
  | iEnter
  /-- `I_CS_ENTER` (R121). -/
  | iCsEnter
  /-- `I_LOAD` (R122). -/
  | iLoad
  /-- `I_INC` (R123). -/
  | iInc
  /-- `I_STORE` (R124). -/
  | iStore
  /-- `I_CS_EXIT` (R125). -/
  | iCsExit
  /-- `I_RET` (R126). -/
  | iRet
  /-- `ALARM` (R101). -/
  | alarm
  /-- `USTEP` (R102). -/
  | ustep
  /-- `RESET` (R220). -/
  | reset
  deriving DecidableEq, Repr

/-- The three agents (R2, R80). -/
inductive Agent where
  | main
  | isr
  | env
  deriving DecidableEq, Repr

/-- The five formats, by which fields are free (R82). -/
inductive Format where
  | m0
  | mb
  | mk
  | i0
  | e0
  deriving DecidableEq, Repr

/-- Why a trace word is reserved: the classes of R89. -/
inductive DecodeReject where
  /-- `aa = 11`. -/
  | reservedAgent
  /-- MAIN `op` 13 or 14. -/
  | reservedMainOp
  /-- ISR `op` 7 to 15. -/
  | reservedIsrOp
  /-- ENV `op` 2 to 14. -/
  | reservedEnvOp
  /-- A field that the micro-operation does not sample is not 0. -/
  | unusedFieldNotZero
  /-- A bit of `now` above `CLK_WIDTH - 1` is not 0 (R81). -/
  | nowTooWide
  deriving DecidableEq, Repr

/-- The pseudo-instructions of R92. `li, ni` are the level and clock sampled by `DB_INC`, `ld, nd` those sampled by
`DB_DEC`. -/
inductive Pseudo where
  | boot (ok : Bool)
  | isr
  | tick
  | atomicDec
  | debounce (li : Bool) (ni : Millis) (ld : Bool) (nd : Millis)
  | consume (li : Bool) (ni : Millis) (ld : Bool) (nd : Millis)
  | idle
  deriving DecidableEq, Repr

end Sys2Proof
end

