-- ==== Sys2Proof/WellFormed.lean ====
section
/-! DEFINITION. What makes a set of parameters and an instruction well formed. -/

namespace Sys2Proof

/-- The constraints between parameters, R7, one conjunct for each inequality and equation of the rule. -/
abbrev Params.WellFormed (p : Params) : Prop :=
  1 ≤ p.stepMs ∧
  p.floorMs ≤ p.defaultMs ∧
  p.defaultMs ≤ p.ceilMs ∧
  p.ceilMs + p.stepMs < 2 ^ p.perWidth ∧
  p.ceilMs * p.usPerMs < 2 ^ p.avWidth ∧
  p.windowMs < 2 ^ p.clkWidth ∧
  p.tickUnitUs = 1 ∧
  p.usPerMs = 1000

/-- R81: with `CLK_WIDTH` below 32 the bits of `now` above `CLK_WIDTH - 1` are 0. No other operand can be ill formed, since
its type has no other values. -/
def Instr.wellFormed (p : Params) : Instr → Bool
  | .dbInc _ now => decide (now.toNat < 2 ^ p.clkWidth)
  | .dbDec _ now => decide (now.toNat < 2 ^ p.clkWidth)
  | .poll | .csEnter | .load | .dec | .store | .csExit | .toggle | .setAlarm | .initTmr _ | .initAlarm | .initEn | .halt
  | .iEnter | .iCsEnter | .iLoad | .iInc | .iStore | .iCsExit | .iRet | .alarm | .ustep | .reset => true

end Sys2Proof
end

