-- ==== Sys2Proof/Decode.lean ====
section
/-! DEFINITION. The trace word: its fields, the decoder (total on every 40-bit word, rejecting by name), the encoder, the
opcode table as data, the textual form and the expansion of the pseudo-instructions. -/

namespace Sys2Proof

/-! ### Fields (R81) -/

/-- Field `aa`, bits 39:38. -/
def aaField (w : TraceWord) : BitVec 2 := w.extractLsb' 38 2

/-- Field `op`, bits 37:34. -/
def opField (w : TraceWord) : BitVec 4 := w.extractLsb' 34 4

/-- Field `lvl`, bit 33. -/
def lvlField (w : TraceWord) : Bool := w.getLsbD 33

/-- Field `ok`, bit 32. -/
def okField (w : TraceWord) : Bool := w.getLsbD 32

/-- Field `now`, bits 31:0. -/
def nowField (w : TraceWord) : Millis := w.extractLsb' 0 32

/-! ### Decoding (R84, R89) -/

/-- A micro-operation without operands: `lvl`, `ok` and `now` are unused and must be 0 (R81, R89). -/
def decodeBare (i : Instr) (lvl ok : Bool) (now : Millis) : Except DecodeReject Instr :=
  if lvl = false ∧ ok = false ∧ now = 0#32 then .ok i else .error .unusedFieldNotZero

/-- Format MB: `ok` is unused; `now` is a sample of a clock of `CLK_WIDTH` bits (R81). -/
def decodeButton (i : Instr) (ok : Bool) (now : Millis) : Except DecodeReject Instr :=
  if ok = true then .error .unusedFieldNotZero
  else if now.toNat < 2 ^ Config.params.clkWidth then .ok i
  else .error .nowTooWide

/-- Format MK: `lvl` and `now` are unused. -/
def decodePlatform (i : Instr) (lvl : Bool) (now : Millis) : Except DecodeReject Instr :=
  if lvl = false ∧ now = 0#32 then .ok i else .error .unusedFieldNotZero

/-- The MAIN rows, R86. -/
def decodeMain (op : BitVec 4) (lvl ok : Bool) (now : Millis) : Except DecodeReject Instr :=
  match op.toNat with
  | 0 => decodeBare .poll lvl ok now
  | 1 => decodeBare .csEnter lvl ok now
  | 2 => decodeBare .load lvl ok now
  | 3 => decodeBare .dec lvl ok now
  | 4 => decodeBare .store lvl ok now
  | 5 => decodeBare .csExit lvl ok now
  | 6 => decodeBare .toggle lvl ok now
  | 7 => decodeButton (.dbInc lvl now) ok now
  | 8 => decodeButton (.dbDec lvl now) ok now
  | 9 => decodeBare .setAlarm lvl ok now
  | 10 => decodePlatform (.initTmr ok) lvl now
  | 11 => decodeBare .initAlarm lvl ok now
  | 12 => decodeBare .initEn lvl ok now
  | 15 => decodeBare .halt lvl ok now
  | _ => .error .reservedMainOp

/-- The ISR rows, R87. -/
def decodeIsr (op : BitVec 4) (lvl ok : Bool) (now : Millis) : Except DecodeReject Instr :=
  match op.toNat with
  | 0 => decodeBare .iEnter lvl ok now
  | 1 => decodeBare .iCsEnter lvl ok now
  | 2 => decodeBare .iLoad lvl ok now
  | 3 => decodeBare .iInc lvl ok now
  | 4 => decodeBare .iStore lvl ok now
  | 5 => decodeBare .iCsExit lvl ok now
  | 6 => decodeBare .iRet lvl ok now
  | _ => .error .reservedIsrOp

/-- The ENV rows, R88. -/
def decodeEnv (op : BitVec 4) (lvl ok : Bool) (now : Millis) : Except DecodeReject Instr :=
  match op.toNat with
  | 0 => decodeBare .alarm lvl ok now
  | 1 => decodeBare .ustep lvl ok now
  | 15 => decodeBare .reset lvl ok now
  | _ => .error .reservedEnvOp

/-- Decoding a trace word, R84. It never depends on the unit's state. -/
def decode (w : TraceWord) : Except DecodeReject Instr :=
  match (aaField w).toNat with
  | 0 => decodeMain (opField w) (lvlField w) (okField w) (nowField w)
  | 1 => decodeIsr (opField w) (lvlField w) (okField w) (nowField w)
  | 2 => decodeEnv (opField w) (lvlField w) (okField w) (nowField w)
  | _ => .error .reservedAgent

/-! ### Encoding (R80, R81) -/

/-- The 6-bit step code of R86 to R88. -/
def Instr.stepCode : Instr → StepCode
  | .poll => 0x00#6
  | .csEnter => 0x01#6
  | .load => 0x02#6
  | .dec => 0x03#6
  | .store => 0x04#6
  | .csExit => 0x05#6
  | .toggle => 0x06#6
  | .dbInc _ _ => 0x07#6
  | .dbDec _ _ => 0x08#6
  | .setAlarm => 0x09#6
  | .initTmr _ => 0x0A#6
  | .initAlarm => 0x0B#6
  | .initEn => 0x0C#6
  | .halt => 0x0F#6
  | .iEnter => 0x10#6
  | .iCsEnter => 0x11#6
  | .iLoad => 0x12#6
  | .iInc => 0x13#6
  | .iStore => 0x14#6
  | .iCsExit => 0x15#6
  | .iRet => 0x16#6
  | .alarm => 0x20#6
  | .ustep => 0x21#6
  | .reset => 0x2F#6

/-- `word = aa ++ op ++ lvl ++ ok ++ now` (R81), the step code being `aa ++ op`. -/
def assemble (code : StepCode) (lvl ok : Bool) (now : Millis) : TraceWord :=
  code ++ BitVec.ofBool lvl ++ BitVec.ofBool ok ++ now

/-- The trace word of an instruction; a field that it does not sample is 0 (R81). -/
def encode (i : Instr) : TraceWord :=
  match i with
  | .dbInc lvl now => assemble i.stepCode lvl false now
  | .dbDec lvl now => assemble i.stepCode lvl false now
  | .initTmr ok => assemble i.stepCode false ok 0#32
  | .poll | .csEnter | .load | .dec | .store | .csExit | .toggle | .setAlarm | .initAlarm | .initEn | .halt
  | .iEnter | .iCsEnter | .iLoad | .iInc | .iStore | .iCsExit | .iRet | .alarm | .ustep | .reset =>
    assemble i.stepCode false false 0#32

/-- The agent whose step the instruction is (R80). -/
def Instr.agent : Instr → Agent
  | .poll | .csEnter | .load | .dec | .store | .csExit | .toggle | .dbInc _ _ | .dbDec _ _ | .setAlarm | .initTmr _
  | .initAlarm | .initEn | .halt => .main
  | .iEnter | .iCsEnter | .iLoad | .iInc | .iStore | .iCsExit | .iRet => .isr
  | .alarm | .ustep | .reset => .env

/-- The two bits `aa` of an agent (R80). -/
def Agent.bits : Agent → BitVec 2
  | .main => 0#2
  | .isr => 1#2
  | .env => 2#2

/-- The format of an instruction (R82). -/
def Instr.format : Instr → Format
  | .poll | .csEnter | .load | .dec | .store | .csExit | .toggle | .setAlarm | .initAlarm | .initEn | .halt => .m0
  | .dbInc _ _ | .dbDec _ _ => .mb
  | .initTmr _ => .mk
  | .iEnter | .iCsEnter | .iLoad | .iInc | .iStore | .iCsExit | .iRet => .i0
  | .alarm | .ustep | .reset => .e0

/-! ### The opcode table as data (R86 to R88, R94) -/

/-- One row of the opcode table: the word's fixed bits are those of `mask`, and they read as in `pattern` (R84). -/
structure OpcodeRow where
  mnemonic : String
  pattern : TraceWord
  mask : TraceWord
  deriving DecidableEq, Repr

/-- A word belongs to a row: `(w AND mask) == match` (R84). -/
def OpcodeRow.admits (r : OpcodeRow) (w : TraceWord) : Bool := w &&& r.mask == r.pattern

/-- The MAIN rows of R86. -/
def mainRows : List OpcodeRow :=
  [⟨"POLL", 0x0000000000#40, 0xFFFFFFFFFF#40⟩,
   ⟨"CS_ENTER", 0x0400000000#40, 0xFFFFFFFFFF#40⟩,
   ⟨"LOAD", 0x0800000000#40, 0xFFFFFFFFFF#40⟩,
   ⟨"DEC", 0x0C00000000#40, 0xFFFFFFFFFF#40⟩,
   ⟨"STORE", 0x1000000000#40, 0xFFFFFFFFFF#40⟩,
   ⟨"CS_EXIT", 0x1400000000#40, 0xFFFFFFFFFF#40⟩,
   ⟨"TOGGLE", 0x1800000000#40, 0xFFFFFFFFFF#40⟩,
   ⟨"DB_INC", 0x1C00000000#40, 0xFD00000000#40⟩,
   ⟨"DB_DEC", 0x2000000000#40, 0xFD00000000#40⟩,
   ⟨"SET_ALARM", 0x2400000000#40, 0xFFFFFFFFFF#40⟩,
   ⟨"INIT_TMR", 0x2800000000#40, 0xFEFFFFFFFF#40⟩,
   ⟨"INIT_ALARM", 0x2C00000000#40, 0xFFFFFFFFFF#40⟩,
   ⟨"INIT_EN", 0x3000000000#40, 0xFFFFFFFFFF#40⟩,
   ⟨"HALT", 0x3C00000000#40, 0xFFFFFFFFFF#40⟩]

/-- The ISR rows of R87. -/
def isrRows : List OpcodeRow :=
  [⟨"I_ENTER", 0x4000000000#40, 0xFFFFFFFFFF#40⟩,
   ⟨"I_CS_ENTER", 0x4400000000#40, 0xFFFFFFFFFF#40⟩,
   ⟨"I_LOAD", 0x4800000000#40, 0xFFFFFFFFFF#40⟩,
   ⟨"I_INC", 0x4C00000000#40, 0xFFFFFFFFFF#40⟩,
   ⟨"I_STORE", 0x5000000000#40, 0xFFFFFFFFFF#40⟩,
   ⟨"I_CS_EXIT", 0x5400000000#40, 0xFFFFFFFFFF#40⟩,
   ⟨"I_RET", 0x5800000000#40, 0xFFFFFFFFFF#40⟩]

/-- The ENV rows of R88. -/
def envRows : List OpcodeRow :=
  [⟨"ALARM", 0x8000000000#40, 0xFFFFFFFFFF#40⟩,
   ⟨"USTEP", 0x8400000000#40, 0xFFFFFFFFFF#40⟩,
   ⟨"RESET", 0xBC00000000#40, 0xFFFFFFFFFF#40⟩]

/-- The 24 rows of the opcode table, in its order (R85). -/
def opcodeRows : List OpcodeRow := mainRows ++ isrRows ++ envRows

/-! ### Textual form (R91) -/

/-- The mnemonic, as R86 to R88 spell it. -/
def Instr.mnemonic : Instr → String
  | .poll => "POLL"
  | .csEnter => "CS_ENTER"
  | .load => "LOAD"
  | .dec => "DEC"
  | .store => "STORE"
  | .csExit => "CS_EXIT"
  | .toggle => "TOGGLE"
  | .dbInc _ _ => "DB_INC"
  | .dbDec _ _ => "DB_DEC"
  | .setAlarm => "SET_ALARM"
  | .initTmr _ => "INIT_TMR"
  | .initAlarm => "INIT_ALARM"
  | .initEn => "INIT_EN"
  | .halt => "HALT"
  | .iEnter => "I_ENTER"
  | .iCsEnter => "I_CS_ENTER"
  | .iLoad => "I_LOAD"
  | .iInc => "I_INC"
  | .iStore => "I_STORE"
  | .iCsExit => "I_CS_EXIT"
  | .iRet => "I_RET"
  | .alarm => "ALARM"
  | .ustep => "USTEP"
  | .reset => "RESET"

/-- One bit as the digit that stands for it. -/
def bitText (b : Bool) : String := if b then "1" else "0"

/-- One line of the textual form: the mnemonic, then `name=value` operands in the order of R91. -/
def Instr.text (i : Instr) : String :=
  match i with
  | .dbInc lvl now => i.mnemonic ++ " lvl=" ++ bitText lvl ++ ", now=" ++ toString now.toNat
  | .dbDec lvl now => i.mnemonic ++ " lvl=" ++ bitText lvl ++ ", now=" ++ toString now.toNat
  | .initTmr ok => i.mnemonic ++ " ok=" ++ bitText ok
  | .poll | .csEnter | .load | .dec | .store | .csExit | .toggle | .setAlarm | .initAlarm | .initEn | .halt
  | .iEnter | .iCsEnter | .iLoad | .iInc | .iStore | .iCsExit | .iRet | .alarm | .ustep | .reset => i.mnemonic

/-! ### Pseudo-instructions (R92) -/

/-- One invocation of the interrupt handler: `ISR`. -/
def isrRun : List Instr := [.iEnter, .iCsEnter, .iLoad, .iInc, .iStore, .iCsExit, .iRet]

/-- The protected decrement: `ATOMIC_DEC`. -/
def atomicDecrement : List Instr := [.csEnter, .load, .dec, .store, .csExit]

/-- The expansion of a pseudo-instruction. -/
def Pseudo.expand : Pseudo → List Instr
  | .boot ok => if ok then [.initTmr ok, .initAlarm, .initEn] else [.initTmr ok]
  | .isr => isrRun
  | .tick => .alarm :: isrRun
  | .atomicDec => atomicDecrement
  | .debounce li ni ld nd => [.dbInc li ni, .dbDec ld nd]
  | .consume li ni ld nd => [.poll] ++ atomicDecrement ++ [.toggle, .dbInc li ni, .dbDec ld nd, .setAlarm]
  | .idle => [.poll]

/-! ### The host's numbering of an instruction's bits -/

/-- The trace word whose bits are the low `nbits` bits of `w`, every bit above them 0. A number that does not fit the one
40-bit word becomes the word of ones, which is reserved (its agent field is 3). -/
def tableWord (nbits w : Nat) : TraceWord :=
  if w % 2 ^ nbits < 2 ^ 40 then BitVec.ofNat 40 (w % 2 ^ nbits) else BitVec.allOnes 40

/-- The instruction that the decoder reads from an instruction whose bits are `w`. -/
def decodeTableWord (nbits w : Nat) : Option Instr := (decode (tableWord nbits w)).toOption

end Sys2Proof
end

