-- ==== Sys2Proof/Machine/State.lean ====
section
/-! DEFINITION. The state of the unit (R20) as plain data, the state after reset (R48), and the reasons for which a step has
no next state. -/

namespace Sys2Proof.Machine

open Sys2Proof

/-- A register that the spec says "holds no value" until a rule writes it (R21, R22, R29, R31, R38, R48). It always holds
`value`; while `written` is false that value is the reset value of log 2 and no read gives it (`Held.read`). -/
structure Held (α : Type) where
  value : α
  written : Bool
  deriving DecidableEq, Repr

/-- What the scheduler and the environment do next. Model data, not state of the unit (R43; log 1). -/
inductive Turn where
  /-- The step that a trace word names, with the inputs it carries (R81, R84). -/
  | word (w : TraceWord)
  /-- The MAIN sequencer steps at whatever `MS` holds, with these levels and this clock on its ports (R14, R185). -/
  | main (lvl ok : Bool) (now : Millis)
  /-- The ISR sequencer steps at whatever `IS` holds (R14, R185). -/
  | isr
  deriving DecidableEq, Repr

/-- The state: the twenty items of R20 in its order, then four fields of the model's own. -/
structure State where
  /-- `MS`, program counter of MAIN (R23). -/
  ms : MainCode
  /-- `IS`, program counter of ISR (R24). -/
  is : IsrCode
  /-- `PT`, the shared cell (R35, R60). -/
  pt : Count
  /-- `TM` = `x[0]` (R21). -/
  tm : Held Count
  /-- `TI` = `x[1]` (R22). -/
  ti : Held Count
  /-- `IP`, pending interrupts (R30). -/
  ip : Nat
  /-- `IM`, interrupt mask (R26). -/
  im : Bool
  /-- `CSI`, ISR-side critical section (R27). -/
  csi : Bool
  /-- `EN`, timer enabled (R28). -/
  en : Bool
  /-- `AR`, auto-reload flag (R29). -/
  ar : Held Bool
  /-- `AV`, alarm value (R31). -/
  av : Held AlarmTicks
  /-- `OUT`, output state (R36). -/
  out : Bool
  /-- `PER`, half-period in milliseconds (R37). -/
  per : Period
  /-- `LV[INC]` (R39). -/
  lvInc : Bool
  /-- `LA[INC]` (R38). -/
  laInc : Held Millis
  /-- `LV[DEC]` (R39). -/
  lvDec : Bool
  /-- `LA[DEC]` (R38). -/
  laDec : Held Millis
  /-- `FLT`, sticky fault register (R32). -/
  flt : FaultBits
  /-- `out_pin`, the driven level (R20, R44). -/
  outPin : Held Bool
  /-- `TC`, timer count modulo `2^TC_WIDTH` (R33; log 5). -/
  tc : Nat
  /-- The model's own: which tick source the unit has, the timed refinement (`USTEP`) or the untimed one (`ALARM`). No
  instruction changes it (R201; log 6). -/
  timed : Bool
  /-- The model's own: strobes that the event port `alarm_wr` has carried (R44; log 13). -/
  alarmWr : Nat
  /-- The model's own: index of the free values, advanced by every step (log 2, log 3). -/
  draws : Nat
  /-- The model's own: the turns to come (R81; log 1). -/
  trace : List Turn
  deriving DecidableEq, Repr

/-- The reasons for which the machine stops with a fault. The unit's own faults (R181 to R185) are not here: they are next
states, with `FLT` written. -/
inductive Fault where
  /-- Raised by a turn of the MAIN or ISR sequencer itself (never by an instruction) where that agent can take no step until
  `RESET`: `FLT` is not 0 (R181), or MAIN stands at `MS = 15` (R149: "stuck and faulted, never final"). Safe: the unit
  has no step there (log 11). -/
  | halted
  deriving DecidableEq, Repr

/-- The reasons for which a step is refused with no state change. -/
inductive Refusal where
  /-- Raised by an arm of `exec` whose instruction has no meaning yet. Safe. -/
  | notModelled (mnemonic : String)
  /-- Raised where the step is not enabled in this state: "A decoded step that is not enabled in the current state is
  *refused* by the runner" (R84). Safe: the unit performs no such step (log 12). -/
  | notEnabled
  /-- Raised by `HALT`, whose rule says "*Enabled when*: never" (R149). Safe. -/
  | haltNeverEnabled
  /-- Raised where a trace word is reserved, with its class (R89). Safe. -/
  | reservedEncoding (why : DecodeReject)
  deriving DecidableEq, Repr

/-- The outcome of a step of this machine. -/
abbrev Result := Host.Outcome State Fault Refusal

/-- A register that holds no value of the spec's yet; `v` is its named reset value (log 2). -/
def Held.unwritten {α : Type} (v : α) : Held α := ⟨v, false⟩

/-- The machine right after reset (R48, R220). -/
def State.reset : State where
  ms := 10#4
  is := 0#3
  pt := 0#32
  tm := .unwritten 0#32
  ti := .unwritten 0#32
  ip := 0
  im := false
  csi := false
  en := false
  ar := .unwritten false
  av := .unwritten 0#32
  out := false
  per := BitVec.ofNat 16 Config.params.defaultMs
  lvInc := false
  laInc := .unwritten 0#32
  lvDec := false
  laDec := .unwritten 0#32
  flt := 0#3
  outPin := .unwritten false
  tc := 0
  timed := false
  alarmWr := 0
  draws := 0
  trace := []

end Sys2Proof.Machine
end

