-- ==== Sys2Proof/Machine/Ops.lean ====
section
/-! DEFINITION. The named operations: when a step is enabled, the shared cell, the sequencer registers and temporaries,
taking a fault, interrupt entry and return, the pending count, the timer and the output ports. -/

namespace Sys2Proof.Machine

open Sys2Proof

/-! ### Enabling conditions (R14) -/

/-- The MAIN agent may take the micro-operation whose code is `c`. -/
abbrev State.MainAt (s : State) (c : MainCode) : Prop := s.flt = 0#3 ∧ s.is = 0#3 ∧ s.ms = c

/-- The ISR agent may take the micro-operation whose code is `c`, `I_ENTER` apart. -/
abbrev State.IsrAt (s : State) (c : IsrCode) : Prop := s.flt = 0#3 ∧ s.is = c

/-- `I_ENTER` may be taken (R120). -/
abbrev State.EntryOpen (s : State) : Prop := s.flt = 0#3 ∧ s.is = 0#3 ∧ 0 < s.ip ∧ s.im = false

/-- The tick source may act (R101, R102). -/
abbrev State.TimerRuns (s : State) : Prop := s.en = true ∧ s.flt = 0#3

/-- `ALARM` may be taken: the tick source may act, and it is not the timed refinement, in which "`ALARM` is not used"
(R101, R102, R201). -/
abbrev State.AlarmOpen (s : State) : Prop := s.en = true ∧ s.flt = 0#3 ∧ s.timed = false

/-- `USTEP` may be taken: the tick source may act, and it is the timed refinement (R14, R102, R201). -/
abbrev State.UstepOpen (s : State) : Prop := s.en = true ∧ s.flt = 0#3 ∧ s.timed = true

/-- A micro-operation with next state `t`: taken when enabled, else refused with no state change (R84). -/
def whenEnabled (enabled : Prop) [Decidable enabled] (t : State) : Result :=
  if enabled then .next t else .refused .notEnabled

/-! ### The shared cell (R12, R60 to R65) -/

/-- The addresses of the space `SHARED`: there is one, `PT_ADDR = 0`, and no other can be expressed (R60, R65). -/
inductive SharedAddr where
  | ptAddr
  deriving DecidableEq, Repr

/-- `MemRead(addr, PT_WIDTH)`: the whole cell (R12, R64). -/
def memRead (a : SharedAddr) (s : State) : Count :=
  match a with
  | .ptAddr => s.pt

/-- `MemWrite(addr, PT_WIDTH, v)`: the whole cell (R12, R64). -/
def memWrite (a : SharedAddr) (v : Count) (s : State) : State :=
  match a with
  | .ptAddr => { s with pt := v }

/-! ### Registers -/

/-- `MS <- c` (R23). -/
def State.setMs (s : State) (c : MainCode) : State := { s with ms := c }

/-- `IS <- c` (R24). -/
def State.setIs (s : State) (c : IsrCode) : State := { s with is := c }

/-- `x[0] <- v` (R21). -/
def State.setTm (s : State) (v : Count) : State := { s with tm := ⟨v, true⟩ }

/-- `x[1] <- v` (R22). -/
def State.setTi (s : State) (v : Count) : State := { s with ti := ⟨v, true⟩ }

/-- `PER <- p` (R37). -/
def State.setPer (s : State) (p : Period) : State := { s with per := p }

/-- `LA[INC] <- now`, `LV[INC] <- 1` (R38, R39). -/
def State.latchInc (s : State) (now : Millis) : State := { s with lvInc := true, laInc := ⟨now, true⟩ }

/-- `LA[DEC] <- now`, `LV[DEC] <- 1` (R38, R39). -/
def State.latchDec (s : State) (now : Millis) : State := { s with lvDec := true, laDec := ⟨now, true⟩ }

/-! ### Taking a fault, interrupt entry and return -/

/-- `raise <Fault>()`, the one fault mechanism: `FLT` gets the code, `MS` gets 15, nothing else changes (R181). -/
def State.raise (s : State) (c : FaultCause) : State := { s with flt := c.code, ms := 15#4 }

/-- Interrupt entry: one pending alarm is taken and control goes to the ISR sequencer's state 1. Nothing is saved, `IM` is
untouched (R120, R191, R192). -/
def State.enterInterrupt (s : State) : State := { s with ip := s.ip - 1, is := 1#3 }

/-- Interrupt return: `IS <- 0`; nothing is restored (R126, R193). -/
def State.leaveInterrupt (s : State) : State := { s with is := 0#3 }

/-! ### The tick source and its interface (R101, R102, R104, R106) -/

/-- The pending count after one more alarm: one more, or 1 where at most one is remembered (R30, R232). -/
def ringPending (m : IpMode) (ip : Nat) : Nat :=
  match m with
  | .count => ip + 1
  | .latch => 1

/-- One alarm becomes pending (R101). -/
def State.ring (s : State) : State := { s with ip := ringPending Config.params.ipMode s.ip }

/-- `TC <- c` (R33). -/
def State.setTc (s : State) (c : Nat) : State := { s with tc := c }

/-- The count after one timer tick, before any reload: `(TC + 1) mod 2^TC_WIDTH` (R102). -/
def nextCount (width tc : Nat) : Nat := (tc + 1) % 2 ^ width

/-- Whether the timer fires at count `c` with alarm value `av` (R102). -/
def alarmFires (cmp : AlarmCompare) (c av : Nat) : Bool :=
  match cmp with
  | .ge => decide (av ≤ c)
  | .eq => decide (c = av)

/-- The count after a tick that fired: reloaded when auto-reload is on (R102). -/
def reloadCount (autoReload : Bool) (c : Nat) : Nat := if autoReload then 0 else c

/-- One timer tick from count `tc`: whether it fires, and the count after it (R102). -/
def timerTick (cmp : AlarmCompare) (width av : Nat) (autoReload : Bool) (tc : Nat) : Bool × Nat :=
  if alarmFires cmp (nextCount width tc) av then (true, reloadCount autoReload (nextCount width tc))
  else (false, nextCount width tc)

/-- The count after `SET_ALARM`: 0 when `SETALARM_RESETS_COUNT`, else kept (R106). A count of 0 is 0 under either, so that
case is decided first and the untimed unit's count never depends on the open parameter. -/
def countAfterSetAlarm (resets : Bool) (tc : Nat) : Nat :=
  match tc with
  | 0 => 0
  | n + 1 => if resets then 0 else n + 1

/-- An alarm write: `AV <- v`, `AR <- 1`, driven on their ports, with one strobe on `alarm_wr` (R104, R106). -/
def State.programAlarm (s : State) (v : Nat) : State :=
  { s with av := ⟨BitVec.ofNat 32 v, true⟩, ar := ⟨true, true⟩, alarmWr := s.alarmWr + 1 }

/-- The alarm value for a half-period of `p` milliseconds: `p * US_PER_MS`, in unbounded integers (R106, R107). -/
def alarmTicks (p : Params) (per : Nat) : Nat := per * p.usPerMs

/-! ### The output (R148) -/

/-- `OUT <- o` and `Out(out_pin, o)`: the pin gets the same new level. -/
def State.drive (s : State) (o : Bool) : State := { s with out := o, outPin := ⟨o, true⟩ }

/-! ### Reset (R220) -/

/-- Every item of the unit's state at its reset value; the model's own four fields are kept (log 15). -/
def State.powerOn (s : State) : State :=
  { State.reset with timed := s.timed, alarmWr := s.alarmWr, draws := s.draws, trace := s.trace }

end Sys2Proof.Machine
end

