-- ==== Sys2Proof/Machine/Operands.lean ====
section
/-! DEFINITION. What an instruction reads: registers that may not be written yet, the sampled ports, the acceptance test of a
press and the clamped steps of the half-period; and the output ports as the environment sees them. -/

namespace Sys2Proof.Machine

open Sys2Proof

/-! ### Registers that may hold no value yet (93 U6, log 2) -/

/-- A read: the written value, or the free value where nothing has written the register yet. -/
def Held.read {α : Type} (h : Held α) (free : α) : α := if h.written then h.value else free

/-- `x[0]`. -/
def State.readTm (s : State) : Count := s.tm.read (Config.unwrittenTm s.draws)

/-- `x[1]`. -/
def State.readTi (s : State) : Count := s.ti.read (Config.unwrittenTi s.draws)

/-- `AV`. -/
def State.readAv (s : State) : AlarmTicks := s.av.read (Config.unwrittenAv s.draws)

/-- `AR`. -/
def State.readAr (s : State) : Bool := s.ar.read (Config.unwrittenAr s.draws)

/-- `LA[INC]`. -/
def State.readLaInc (s : State) : Millis := s.laInc.read (Config.unwrittenLaInc s.draws)

/-- `LA[DEC]`. -/
def State.readLaDec (s : State) : Millis := s.laDec.read (Config.unwrittenLaDec s.draws)

/-! ### Sampling a button (R161, R162, R165) -/

/-- `pressed = (lvl == 0)`: the active level is low (R83, R161). -/
def pressed (lvl : Bool) : Bool := !lvl

/-- `elapsed(b, now) = (now - LA[b]) mod 2^CLK_WIDTH`, unsigned (R162). -/
def elapsed (p : Params) (now la : Millis) : Nat := (now - la).toNat % 2 ^ p.clkWidth

/-- `accept(b, lvl, now)`: asserted, and no prior press or more than the window since the last accepted one (R162). -/
def accepts (p : Params) (lv : Bool) (la : Millis) (lvl : Bool) (now : Millis) : Bool :=
  pressed lvl && (!lv || decide (p.windowMs < elapsed p now la))

/-! ### Stepping the half-period (R163, R164, R165) -/

/-- The half-period after an accepted Increase, guarded so that no intermediate is negative (R163). -/
def shorten (p : Params) (per : Nat) : Nat :=
  if per < p.floorMs + p.stepMs then p.floorMs else per - p.stepMs

/-- The half-period after an accepted Decrease, clamped to the ceiling (R164). -/
def lengthen (p : Params) (per : Nat) : Nat :=
  if p.ceilMs < per + p.stepMs then p.ceilMs else per + p.stepMs

/-- A half-period as the register holds it. -/
def toPeriod (n : Nat) : Period := BitVec.ofNat 16 n

/-! ### Output ports (R44) -/

/-- Port `out_pin`: the driven level, or any level before the first `TOGGLE` (93 U7). -/
def State.outPinPort (s : State) : Bool := s.outPin.read (Config.undrivenPin s.draws)

/-- Port `alarm_value`. -/
def State.alarmValuePort (s : State) : AlarmTicks := s.readAv

/-- Port `alarm_autoreload`. -/
def State.alarmAutoreloadPort (s : State) : Bool := s.readAr

/-- Port `timer_en`. -/
def State.timerEnPort (s : State) : Bool := s.en

end Sys2Proof.Machine
end

