-- ==== Sys2Proof/Machine/Debounce.lean ====
section
/-! DEFINITION. Debounce and frequency adjustment: `DB_INC`, `DB_DEC` (spec file 43). -/

namespace Sys2Proof.Machine

open Sys2Proof

/-- The debounce step of the Increase button: on acceptance the latch is updated and `PER` is shortened (R163). -/
def State.pressInc (s : State) (lvl : Bool) (now : Millis) : State :=
  if accepts Config.params s.lvInc s.readLaInc lvl now then
    (s.latchInc now).setPer (toPeriod (shorten Config.params s.per.toNat))
  else s

/-- The debounce step of the Decrease button: on acceptance the latch is updated and `PER` is lengthened (R164). -/
def State.pressDec (s : State) (lvl : Bool) (now : Millis) : State :=
  if accepts Config.params s.lvDec s.readLaDec lvl now then
    (s.latchDec now).setPer (toPeriod (lengthen Config.params s.per.toNat))
  else s

/-- `DB_INC` (R163). -/
def execDbInc (lvl : Bool) (now : Millis) (s : State) : Result :=
  whenEnabled (s.MainAt Ms.dbInc) ((s.pressInc lvl now).setMs Ms.dbDec)

/-- `DB_DEC` (R164). -/
def execDbDec (lvl : Bool) (now : Millis) (s : State) : Result :=
  whenEnabled (s.MainAt Ms.dbDec) ((s.pressDec lvl now).setMs Ms.setAlarm)

end Sys2Proof.Machine
end

