-- ==== Sys2Proof/Machine/Flags.lean ====
section
/-! DEFINITION. The flags (R26 to R29): who sets and who clears each. `AR` is written with the alarm value
(`State.programAlarm`); no instruction computes a flag from a result (R10: unsigned values only, no carry, zero or sign
flag exists in the unit). -/

namespace Sys2Proof.Machine

open Sys2Proof

/-- `IM <- b`: the main-side critical section, which masks the timer interrupt (R26, R143, R147). -/
def State.setIm (s : State) (b : Bool) : State := { s with im := b }

/-- `CSI <- b`: the ISR-side critical section (R27, R121, R125). -/
def State.setCsi (s : State) (b : Bool) : State := { s with csi := b }

/-- `EN <- 1`: interrupt generation starts (R28, R105). -/
def State.enableTimer (s : State) : State := { s with en := true }

end Sys2Proof.Machine
end

