-- ==== Sys2Proof/Machine/Isr.lean ====
section
/-! DEFINITION. The interrupt service routine: `I_ENTER`, `I_CS_ENTER`, `I_LOAD`, `I_INC`, `I_STORE`, `I_CS_EXIT`, `I_RET`
(spec file 41). -/

namespace Sys2Proof.Machine

open Sys2Proof

/-- `I_ENTER` (R120). -/
def execIEnter (s : State) : Result := whenEnabled s.EntryOpen s.enterInterrupt

/-- `I_CS_ENTER` (R121). -/
def execICsEnter (s : State) : Result := whenEnabled (s.IsrAt Is.csEnter) ((s.setCsi true).setIs Is.load)

/-- `I_LOAD` (R122). -/
def execILoad (s : State) : Result := whenEnabled (s.IsrAt Is.load) ((s.setTi (memRead .ptAddr s)).setIs Is.inc)

/-- `I_INC` (R123, R183). -/
def execIInc (s : State) : Result :=
  whenEnabled (s.IsrAt Is.inc)
    (if s.readTi = BitVec.allOnes 32 then s.raise .ptOverflow else (s.setTi (s.readTi + 1#32)).setIs Is.store)

/-- `I_STORE` (R124). -/
def execIStore (s : State) : Result :=
  whenEnabled (s.IsrAt Is.store) ((memWrite .ptAddr s.readTi s).setIs Is.csExit)

/-- `I_CS_EXIT` (R125). -/
def execICsExit (s : State) : Result := whenEnabled (s.IsrAt Is.csExit) ((s.setCsi false).setIs Is.ret)

/-- `I_RET` (R126). -/
def execIRet (s : State) : Result := whenEnabled (s.IsrAt Is.ret) s.leaveInterrupt

end Sys2Proof.Machine
end

