-- ==== Sys2Proof/Machine/MainLoop.lean ====
section
/-! DEFINITION. The main control loop: `POLL`, `CS_ENTER`, `LOAD`, `DEC`, `STORE`, `CS_EXIT`, `TOGGLE`, `HALT` (spec file
42). -/

namespace Sys2Proof.Machine

open Sys2Proof

/-- `POLL` (R142). -/
def execPoll (s : State) : Result :=
  whenEnabled (s.MainAt Ms.poll)
    ((s.setTm (memRead .ptAddr s)).setMs (if memRead .ptAddr s = 0#32 then Ms.poll else Ms.csEnter))

/-- `CS_ENTER` (R143). -/
def execCsEnter (s : State) : Result := whenEnabled (s.MainAt Ms.csEnter) ((s.setIm true).setMs Ms.load)

/-- `LOAD` (R144). -/
def execLoad (s : State) : Result := whenEnabled (s.MainAt Ms.load) ((s.setTm (memRead .ptAddr s)).setMs Ms.dec)

/-- `DEC` (R145, R184). -/
def execDec (s : State) : Result :=
  whenEnabled (s.MainAt Ms.dec)
    (if s.readTm = 0#32 then s.raise .ptUnderflow else (s.setTm (s.readTm - 1#32)).setMs Ms.store)

/-- `STORE` (R146). -/
def execStore (s : State) : Result :=
  whenEnabled (s.MainAt Ms.store) ((memWrite .ptAddr s.readTm s).setMs Ms.csExit)

/-- `CS_EXIT` (R147). -/
def execCsExit (s : State) : Result := whenEnabled (s.MainAt Ms.csExit) ((s.setIm false).setMs Ms.toggle)

/-- `TOGGLE` (R148). -/
def execToggle (s : State) : Result := whenEnabled (s.MainAt Ms.toggle) ((s.drive (!s.out)).setMs Ms.dbInc)

/-- `HALT` (R149): "*Enabled when*: never". -/
def execHalt (_s : State) : Result := .refused .haltNeverEnabled

end Sys2Proof.Machine
end

