-- ==== Sys2Proof/Machine/Reset.lean ====
section
/-! DEFINITION. The power-on reset: `RESET` (spec file 70). -/

namespace Sys2Proof.Machine

open Sys2Proof

/-- `RESET` (R220): enabled always, in every state, faulted or not. -/
def execReset (s : State) : Result := .next s.powerOn

end Sys2Proof.Machine
end

