-- ==== Sys2Proof/Machine/TickSource.lean ====
section
/-! DEFINITION. The tick source and the timer-period updater: `ALARM`, `USTEP`, `INIT_TMR`, `INIT_ALARM`, `INIT_EN`,
`SET_ALARM` (spec file 40). -/

namespace Sys2Proof.Machine

open Sys2Proof

/-- `ALARM` (R101), the step of the untimed tick source. -/
def execAlarm (s : State) : Result := whenEnabled s.AlarmOpen s.ring

/-- The timer tick under the open parameters and this state's alarm value and count (R102; log 5). -/
def State.timerNow (s : State) : Bool × Nat :=
  timerTick Config.alarmCompare Config.tcWidth s.readAv.toNat s.readAr s.tc

/-- The effect of one timer tick: an alarm becomes pending if it fires, and the count moves (R102). -/
def State.tick (s : State) : State := (if s.timerNow.1 then s.ring else s).setTc s.timerNow.2

/-- `USTEP` (R102), which replaces `ALARM` in the timed refinement (R201). -/
def execUstep (s : State) : Result := whenEnabled s.UstepOpen s.tick

/-- `INIT_TMR` (R103, R182). -/
def execInitTmr (ok : Bool) (s : State) : Result :=
  whenEnabled (s.MainAt Ms.initTmr) (if ok then (s.setTc 0).setMs Ms.initAlarm else s.raise .startupFail)

/-- `INIT_ALARM` (R104). -/
def execInitAlarm (s : State) : Result :=
  whenEnabled (s.MainAt Ms.initAlarm)
    ((s.programAlarm (alarmTicks Config.params Config.params.defaultMs)).setMs Ms.initEn)

/-- `INIT_EN` (R105). -/
def execInitEn (s : State) : Result := whenEnabled (s.MainAt Ms.initEn) (s.enableTimer.setMs Ms.poll)

/-- `SET_ALARM` (R106). -/
def execSetAlarm (s : State) : Result :=
  whenEnabled (s.MainAt Ms.setAlarm)
    (((s.programAlarm (alarmTicks Config.params s.per.toNat)).setTc
      (countAfterSetAlarm Config.setAlarmResetsCount s.tc)).setMs Ms.poll)

end Sys2Proof.Machine
end

