-- ==== Sys2Proof/Machine/Dispatch.lean ====
section
/-! DEFINITION. One arm per constructor of Instr, each one call of its meaning. -/

namespace Sys2Proof.Machine

open Sys2Proof

def exec (i : Instr) (s : State) : Host.Outcome State Fault Refusal :=
  match i with
  | .poll => Sys2Proof.Machine.execPoll s
  | .csEnter => Sys2Proof.Machine.execCsEnter s
  | .load => Sys2Proof.Machine.execLoad s
  | .dec => Sys2Proof.Machine.execDec s
  | .store => Sys2Proof.Machine.execStore s
  | .csExit => Sys2Proof.Machine.execCsExit s
  | .toggle => Sys2Proof.Machine.execToggle s
  | .dbInc lvl now => Sys2Proof.Machine.execDbInc lvl now s
  | .dbDec lvl now => Sys2Proof.Machine.execDbDec lvl now s
  | .setAlarm => Sys2Proof.Machine.execSetAlarm s
  | .initTmr ok => Sys2Proof.Machine.execInitTmr ok s
  | .initAlarm => Sys2Proof.Machine.execInitAlarm s
  | .initEn => Sys2Proof.Machine.execInitEn s
  | .halt => Sys2Proof.Machine.execHalt s
  | .iEnter => Sys2Proof.Machine.execIEnter s
  | .iCsEnter => Sys2Proof.Machine.execICsEnter s
  | .iLoad => Sys2Proof.Machine.execILoad s
  | .iInc => Sys2Proof.Machine.execIInc s
  | .iStore => Sys2Proof.Machine.execIStore s
  | .iCsExit => Sys2Proof.Machine.execICsExit s
  | .iRet => Sys2Proof.Machine.execIRet s
  | .alarm => Sys2Proof.Machine.execAlarm s
  | .ustep => Sys2Proof.Machine.execUstep s
  | .reset => Sys2Proof.Machine.execReset s

end Sys2Proof.Machine
end

