-- ==== Sys2Proof/Machine/Sequencer.lean ====
section
/-! DEFINITION. Whose turn it is: the sequencers' own steps (R14, R23, R24, R185), a turn of the trace, and the scheduler's
free choice where the trace is empty. -/

namespace Sys2Proof.Machine

open Sys2Proof

/-! ### The sequencers -/

/-- The micro-operation that `MS` names, with the inputs on MAIN's ports; none for the reserved 13 and 14 and for `HALT`
(R23). -/
def mainInstr (ms : MainCode) (lvl ok : Bool) (now : Millis) : Option Instr :=
  match ms.toNat with
  | 0 => some .poll
  | 1 => some .csEnter
  | 2 => some .load
  | 3 => some .dec
  | 4 => some .store
  | 5 => some .csExit
  | 6 => some .toggle
  | 7 => some (.dbInc lvl now)
  | 8 => some (.dbDec lvl now)
  | 9 => some .setAlarm
  | 10 => some (.initTmr ok)
  | 11 => some .initAlarm
  | 12 => some .initEn
  | _ => none

/-- The micro-operation that `IS` names; none for the reserved 7 (R24). -/
def isrInstr (is : IsrCode) : Option Instr :=
  match is.toNat with
  | 0 => some .iEnter
  | 1 => some .iCsEnter
  | 2 => some .iLoad
  | 3 => some .iInc
  | 4 => some .iStore
  | 5 => some .iCsExit
  | 6 => some .iRet
  | _ => none

/-- A step of the MAIN sequencer. In a halted unit, and at `MS = 15`, MAIN has no step until `RESET` (R14, R149, R181);
while the ISR is in progress it has none yet (R14); at a reserved value it raises `ILLEGAL_STATE` (R185). -/
def stepMain (lvl ok : Bool) (now : Millis) (s : State) : Result :=
  if s.flt ≠ 0#3 ∨ s.ms = Ms.halt then .fault .halted
  else if s.is ≠ 0#3 then .refused .notEnabled
  else
    match mainInstr s.ms lvl ok now with
    | some i => exec i s
    | none => .next (s.raise .illegalState)

/-- A step of the ISR sequencer; at a reserved value it raises `ILLEGAL_STATE` (R185). -/
def stepIsr (s : State) : Result :=
  if s.flt ≠ 0#3 then .fault .halted
  else
    match isrInstr s.is with
    | some i => exec i s
    | none => .next (s.raise .illegalState)

/-! ### Turns -/

/-- A trace word: a reserved one is refused by its class, any other runs the micro-operation it names (R84, R89). -/
def runWord (w : TraceWord) (s : State) : Result :=
  match decode w with
  | .ok i => exec i s
  | .error why => .refused (.reservedEncoding why)

/-- One turn. -/
def runTurn (t : Turn) (s : State) : Result :=
  match t with
  | .word w => runWord w s
  | .main lvl ok now => stepMain lvl ok now s
  | .isr => stepIsr s

/-! ### The free scheduler (R14, 93 U12, U16, U17; log 3, log 4) -/

/-- MAIN has an enabled step (R14). -/
abbrev State.MainReady (s : State) : Prop := s.flt = 0#3 ∧ s.is = 0#3 ∧ s.ms ≠ Ms.halt

/-- ISR has an enabled step: the entry, or the next one of a run in progress (R14). -/
abbrev State.IsrReady (s : State) : Prop := s.EntryOpen ∨ (s.flt = 0#3 ∧ s.is ≠ 0#3)

/-- The true time `T` in milliseconds at free step `k`: some epoch, then advances of any size, never a decrease (R45). -/
def trueTime (k : Nat) : Nat :=
  match k with
  | 0 => Config.clockAdvance 0
  | n + 1 => trueTime n + Config.clockAdvance (n + 1)

/-- `In(now_ms)` at free step `k`: `T mod 2^CLK_WIDTH` (R45). -/
def sampleClock (k : Nat) : Millis := BitVec.ofNat 32 (trueTime k)

/-- The alarm step of the tick source: `ALARM`, or `USTEP` in the timed refinement (R201). -/
def tickSourceInstr (timed : Bool) : Instr := if timed then .ustep else .alarm

/-- The turns that the scheduler may pick in this state: `RESET` always, and each other agent that has an enabled step
(R14). -/
def enabledTurns (s : State) : List Turn :=
  [.word (encode .reset)]
    ++ (if s.TimerRuns then [.word (encode (tickSourceInstr s.timed))] else [])
    ++ (if s.IsrReady then [.isr] else [])
    ++ (if s.MainReady then
          [.main (Config.buttonLevel s.draws) (Config.platformOk s.draws) (sampleClock s.draws)]
        else [])

/-- The scheduler's pick among the enabled turns: any of them (R14). -/
def freeTurn (s : State) : Turn :=
  (enabledTurns s).getD (Config.scheduler s.draws % (enabledTurns s).length) (.word (encode .reset))

/-! ### Fetching the next turn (log 1) -/

/-- The next turn: the first of the trace, or the scheduler's free pick where the trace is empty. -/
def nextTurn (s : State) : Turn :=
  match s.trace with
  | t :: _ => t
  | [] => freeTurn s

/-- The state in which the turn runs: the turn is taken off the trace, and the index of the free values moves on. -/
def State.afterFetch (s : State) : State := { s with trace := s.trace.tail, draws := s.draws + 1 }

/-- The selection under which the sequencers run instruction `i` next: the agent's program counter at the micro-operation's
code, and the rest of its enabling condition (R14). `HALT` can be selected by nothing, `RESET` needs nothing (log 1). -/
def State.selectFor (i : Instr) (s : State) : State :=
  match i with
  | .poll => { s with flt := 0#3, is := 0#3, ms := Ms.poll }
  | .csEnter => { s with flt := 0#3, is := 0#3, ms := Ms.csEnter }
  | .load => { s with flt := 0#3, is := 0#3, ms := Ms.load }
  | .dec => { s with flt := 0#3, is := 0#3, ms := Ms.dec }
  | .store => { s with flt := 0#3, is := 0#3, ms := Ms.store }
  | .csExit => { s with flt := 0#3, is := 0#3, ms := Ms.csExit }
  | .toggle => { s with flt := 0#3, is := 0#3, ms := Ms.toggle }
  | .dbInc _ _ => { s with flt := 0#3, is := 0#3, ms := Ms.dbInc }
  | .dbDec _ _ => { s with flt := 0#3, is := 0#3, ms := Ms.dbDec }
  | .setAlarm => { s with flt := 0#3, is := 0#3, ms := Ms.setAlarm }
  | .initTmr _ => { s with flt := 0#3, is := 0#3, ms := Ms.initTmr }
  | .initAlarm => { s with flt := 0#3, is := 0#3, ms := Ms.initAlarm }
  | .initEn => { s with flt := 0#3, is := 0#3, ms := Ms.initEn }
  | .halt => s
  | .iEnter => { s with flt := 0#3, is := 0#3, im := false, ip := max 1 s.ip }
  | .iCsEnter => { s with flt := 0#3, is := Is.csEnter }
  | .iLoad => { s with flt := 0#3, is := Is.load }
  | .iInc => { s with flt := 0#3, is := Is.inc }
  | .iStore => { s with flt := 0#3, is := Is.store }
  | .iCsExit => { s with flt := 0#3, is := Is.csExit }
  | .iRet => { s with flt := 0#3, is := Is.ret }
  | .alarm => { s with flt := 0#3, en := true, timed := false }
  | .ustep => { s with flt := 0#3, en := true, timed := true }
  | .reset => s

/-- Word `w` is the first turn of the trace, and the sequencers stand where it is the next micro-operation. -/
def State.placeWord (w : TraceWord) (s : State) : State :=
  match decode w with
  | .ok i => { s.selectFor i with trace := .word w :: s.trace }
  | .error _ => { s with trace := .word w :: s.trace }

end Sys2Proof.Machine
end

