-- ==== Sys2Proof/Machine/Step.lean ====
section
/-! DEFINITION. One step of the machine, and where the host places an instruction for it. -/

namespace Sys2Proof.Machine

open Sys2Proof

/-- One step: the next turn, run in the state that fetching it leaves (R14; log 1). -/
def step (s : State) : Host.Outcome State Fault Refusal := runTurn (nextTurn s) s.afterFetch

/-- The instruction whose bits are the low `nbits` bits of `w`, placed where the very next step fetches and runs it
(log 1). -/
def State.withFetchWord (s : State) (nbits w : Nat) : State := s.placeWord (tableWord nbits w)

end Sys2Proof.Machine
end

