-- ==== Sys2Proof/Safety.lean ====
section
/-! DEFINITION. The terms in which claims are stated: when an instruction is enabled, what a run is, the invariants of R245
to R248, and what counts as a good end. -/

namespace Sys2Proof.Machine

open Sys2Proof

/-! ### Enabling, as the opcode table gives it (R14) -/

/-- The column `enabled_when` of the opcode table, with the tick source that the unit has (R14: `USTEP` in the timed refinement
only; R201: there it replaces `ALARM`). -/
def Enabled (i : Instr) (s : State) : Prop :=
  match i with
  | .poll => s.flt = 0#3 ∧ s.is = 0#3 ∧ s.ms = 0#4
  | .csEnter => s.flt = 0#3 ∧ s.is = 0#3 ∧ s.ms = 1#4
  | .load => s.flt = 0#3 ∧ s.is = 0#3 ∧ s.ms = 2#4
  | .dec => s.flt = 0#3 ∧ s.is = 0#3 ∧ s.ms = 3#4
  | .store => s.flt = 0#3 ∧ s.is = 0#3 ∧ s.ms = 4#4
  | .csExit => s.flt = 0#3 ∧ s.is = 0#3 ∧ s.ms = 5#4
  | .toggle => s.flt = 0#3 ∧ s.is = 0#3 ∧ s.ms = 6#4
  | .dbInc _ _ => s.flt = 0#3 ∧ s.is = 0#3 ∧ s.ms = 7#4
  | .dbDec _ _ => s.flt = 0#3 ∧ s.is = 0#3 ∧ s.ms = 8#4
  | .setAlarm => s.flt = 0#3 ∧ s.is = 0#3 ∧ s.ms = 9#4
  | .initTmr _ => s.flt = 0#3 ∧ s.is = 0#3 ∧ s.ms = 10#4
  | .initAlarm => s.flt = 0#3 ∧ s.is = 0#3 ∧ s.ms = 11#4
  | .initEn => s.flt = 0#3 ∧ s.is = 0#3 ∧ s.ms = 12#4
  | .halt => False
  | .iEnter => s.flt = 0#3 ∧ s.is = 0#3 ∧ 0 < s.ip ∧ s.im = false
  | .iCsEnter => s.flt = 0#3 ∧ s.is = 1#3
  | .iLoad => s.flt = 0#3 ∧ s.is = 2#3
  | .iInc => s.flt = 0#3 ∧ s.is = 3#3
  | .iStore => s.flt = 0#3 ∧ s.is = 4#3
  | .iCsExit => s.flt = 0#3 ∧ s.is = 5#3
  | .iRet => s.flt = 0#3 ∧ s.is = 6#3
  | .alarm => s.en = true ∧ s.flt = 0#3 ∧ s.timed = false
  | .ustep => s.en = true ∧ s.flt = 0#3 ∧ s.timed = true
  | .reset => True

/-! ### Runs -/

/-- The instructions one after another, stopping at the first that has no next state. -/
def execAll (is : List Instr) (s : State) : Result :=
  match is with
  | [] => .next s
  | i :: rest =>
    match exec i s with
    | .next t => execAll rest t
    | .fault r => .fault r
    | .refused r => .refused r

/-- The turns one after another, stopping at the first that has no next state. -/
def runTurns (ts : List Turn) (s : State) : Result :=
  match ts with
  | [] => .next s
  | t :: rest =>
    match runTurn t s with
    | .next u => runTurns rest u
    | .fault r => .fault r
    | .refused r => .refused r

/-- The machine right after reset, with either tick source (R200, R201; log 6). -/
def State.resetWith (timed : Bool) : State := { State.reset with timed := timed }

/-- A state that some run from reset comes to, with either tick source: any turns may be placed at any time, and any number
of steps taken. -/
inductive Reachable : State → Prop where
  | reset (timed : Bool) : Reachable (State.resetWith timed)
  | place (s : State) (ts : List Turn) : Reachable s → Reachable { s with trace := ts }
  | step (s t : State) : Reachable s → Machine.step s = .next t → Reachable t

/-- The outcome with the next state, if there is one, changed by `f`. -/
def mapNext (f : State → State) (r : Result) : Result :=
  match r with
  | .next s => .next (f s)
  | .fault e => .fault e
  | .refused e => .refused e

/-- The state of the untimed unit: the untimed tick source, and no timer count, which only the timed refinement reads
(R202). -/
def State.untimed (s : State) : State := { s with tc := 0, timed := false }

/-- A run of the timed refinement read as a run of the untimed unit: each firing `USTEP` becomes an `ALARM`, each other
`USTEP` is erased (R202). -/
def untimeRun (is : List Instr) (s : State) : List Instr :=
  match is with
  | [] => []
  | i :: rest =>
    match exec i s with
    | .next t => (if i = .ustep then (if s.timerNow.1 then [.alarm] else []) else [i]) ++ untimeRun rest t
    | .fault _ => []
    | .refused _ => []

/-- `k` complete ISR runs, one after another. -/
def isrRuns (k : Nat) : List Instr := (List.replicate k isrRun).flatten

/-- One complete ISR run with steps `i` of the tick source between its micro-operations: `a` of them after `I_ENTER`, `b`
after `I_CS_ENTER`, and so on. -/
def isrRunAmid (i : Instr) (a b c d e f : Nat) : List Instr :=
  [.iEnter] ++ List.replicate a i ++ [.iCsEnter] ++ List.replicate b i ++ [.iLoad] ++ List.replicate c i ++ [.iInc]
    ++ List.replicate d i ++ [.iStore] ++ List.replicate e i ++ [.iCsExit] ++ List.replicate f i ++ [.iRet]

/-- The registers of main context that the ISR neither reads nor writes (R42), taken from `v`. -/
def State.withMainRegs (s v : State) : State :=
  { s with
    tm := v.tm, en := v.en, ar := v.ar, av := v.av, out := v.out, per := v.per, lvInc := v.lvInc, laInc := v.laInc,
    lvDec := v.lvDec, laDec := v.laDec, outPin := v.outPin }

/-! ### Counting steps (R247, R248) -/

/-- Steps counted since reset: alarms, decrements stored, toggles. -/
structure Ledger where
  alarms : Nat
  stores : Nat
  toggles : Nat
  deriving DecidableEq, Repr

/-- The ledger after instruction `i` was taken in state `s`: `A` counts `ALARM` steps and firing `USTEP`s (R247). -/
def Ledger.after (l : Ledger) (i : Instr) (s : State) : Ledger :=
  match i with
  | .alarm => { l with alarms := l.alarms + 1 }
  | .ustep => if s.timerNow.1 then { l with alarms := l.alarms + 1 } else l
  | .store => { l with stores := l.stores + 1 }
  | .toggle => { l with toggles := l.toggles + 1 }
  | .reset => ⟨0, 0, 0⟩
  | .poll | .csEnter | .load | .dec | .csExit | .dbInc _ _ | .dbDec _ _ | .setAlarm | .initTmr _ | .initAlarm | .initEn
  | .halt | .iEnter | .iCsEnter | .iLoad | .iInc | .iStore | .iCsExit | .iRet => l

/-- A run from reset, with either tick source, that comes to a state with this ledger, under any schedule, samples and free
values. -/
inductive CountedRun : Ledger → State → Prop where
  | reset (timed : Bool) : CountedRun ⟨0, 0, 0⟩ (State.resetWith timed)
  | op (l : Ledger) (s t : State) (i : Instr) (n : Nat) :
      CountedRun l s → exec i { s with draws := n } = .next t → CountedRun (l.after i { s with draws := n }) t

/-- Tick conservation, R247: every alarm is pending, or in an ISR run that has not stored yet, or counted in `PT`, or
consumed. -/
def TicksConserved (l : Ledger) (s : State) : Prop :=
  s.flt = 0#3 →
    l.alarms = s.ip + (if s.is = 1#3 ∨ s.is = 2#3 ∨ s.is = 3#3 ∨ s.is = 4#3 then 1 else 0) + s.pt.toNat + l.stores

/-- Toggle count, R248: one toggle for every decrement stored, the one in progress apart, and `OUT` is its parity. -/
def TogglesCounted (l : Ledger) (s : State) : Prop :=
  s.flt = 0#3 →
    l.toggles + (if s.ms = 5#4 ∨ s.ms = 6#4 then 1 else 0) = l.stores ∧ s.out = decide (l.toggles % 2 = 1)

/-- How many of the next `n` timer ticks fire, from count `tc`, with the alarm value unchanged (R102). -/
def firings (cmp : AlarmCompare) (width av : Nat) (autoReload : Bool) (tc : Nat) (n : Nat) : Nat :=
  match n with
  | 0 => 0
  | k + 1 =>
    (if (timerTick cmp width av autoReload tc).1 then 1 else 0)
      + firings cmp width av autoReload (timerTick cmp width av autoReload tc).2 k

/-! ### Invariants (R245, R246) -/

/-- The ten items of R245, in its order. -/
structure StateInvariants (s : State) : Prop where
  mask_iff_section : s.flt = 0#3 → (s.im = true ↔ s.ms = 2#4 ∨ s.ms = 3#4 ∨ s.ms = 4#4 ∨ s.ms = 5#4)
  underflow_keeps_mask : s.flt = 3#3 → s.im = true ∧ s.ms = 15#4
  csi_iff_section : s.csi = true ↔ s.is = 2#3 ∨ s.is = 3#3 ∨ s.is = 4#3 ∨ s.is = 5#3
  mask_excludes_isr : s.im = true → s.is = 0#3
  sections_apart : ¬(s.im = true ∧ s.csi = true)
  period_in_range : 100 ≤ s.per.toNat ∧ s.per.toNat ≤ 2000
  codes_legal : s.ms ≠ 13#4 ∧ s.ms ≠ 14#4 ∧ s.is ≠ 7#3 ∧ (s.flt = 0#3 ∨ s.flt = 1#3 ∨ s.flt = 2#3)
  halt_iff_fault : s.ms = 15#4 ↔ s.flt ≠ 0#3
  quiet_until_enabled : s.en = false → s.ip = 0 ∧ s.is = 0#3 ∧ s.pt = 0#32
  tm_written : (s.ms = 3#4 ∨ s.ms = 4#4) ∧ s.flt = 0#3 → s.tm.written = true
  tm_at_dec : s.ms = 3#4 → s.tm.value = s.pt ∧ 1 ≤ s.pt.toNat
  tm_at_store : s.ms = 4#4 → s.tm.value.toNat + 1 = s.pt.toNat
  ti_at_inc : s.is = 3#3 → s.ti.written = true ∧ s.ti.value = s.pt
  ti_at_store : s.is = 4#3 → s.ti.written = true ∧ s.ti.value.toNat = s.pt.toNat + 1
  inc_press_timed : s.lvInc = true → s.laInc.written = true
  dec_press_timed : s.lvDec = true → s.laDec.written = true

/-- The invariant that every step keeps: R245 with what makes it inductive, R246 with the alarm value between two polls, the
multiples of the step (R167), the pin (R148), the width of the timer count (R33) and its absence from the untimed unit. -/
structure Inv (s : State) : Prop where
  items : StateInvariants s
  tick_seen : (s.ms = 1#4 ∨ s.ms = 2#4) → 1 ≤ s.pt.toNat
  disabled_at_startup : (s.ms = 10#4 ∨ s.ms = 11#4 ∨ s.ms = 12#4) → s.en = false
  enabled_after_startup : s.flt = 0#3 → ¬(s.ms = 10#4 ∨ s.ms = 11#4 ∨ s.ms = 12#4) → s.en = true
  alarm_is_period : s.flt = 0#3 → ¬(s.ms = 8#4 ∨ s.ms = 9#4 ∨ s.ms = 10#4 ∨ s.ms = 11#4) →
    s.av = ⟨BitVec.ofNat 32 (s.per.toNat * 1000), true⟩ ∧ s.ar = ⟨true, true⟩
  period_default_at_startup : (s.ms = 10#4 ∨ s.ms = 11#4) → s.per = 500#16
  alarm_written : s.en = true → s.ar = ⟨true, true⟩
  alarm_legal : s.av.written = true →
    ∃ p, 100 ≤ p ∧ p ≤ 2000 ∧ 50 ∣ p ∧ s.av.value = BitVec.ofNat 32 (p * 1000)
  en_has_alarm : s.en = true → s.av.written = true
  period_multiple : 50 ∣ s.per.toNat
  pin_follows : s.outPin.written = true → s.outPin.value = s.out
  count_in_width : s.tc < 2 ^ Config.tcWidth
  untimed_has_no_count : s.timed = false → s.tc = 0

/-! ### Ends of runs (R17, R240) -/

/-- Quiescent: the loop is Idle and owes nothing (R240). -/
def State.Quiescent (s : State) : Prop :=
  s.flt = 0#3 ∧ s.ms = 0#4 ∧ s.is = 0#3 ∧ s.pt = 0#32 ∧ s.ip = 0

/-- Faulted (R17): never a good end (R240). -/
def State.Faulted (s : State) : Prop := s.flt ≠ 0#3

/-- A run ends well when its trace has ended and the last state is quiescent, which excludes faulted (R240). -/
def State.GoodEnd (s : State) : Prop := s.trace = [] ∧ s.Quiescent ∧ ¬s.Faulted

end Sys2Proof.Machine
end

