-- ==== Sys2Proof/Certificates/Slice0/Obligations.lean ====
section
/-! DEFINITION. The statements for the provers. Each docstring names the rule of the spec that the statement formalises, or
says that it is the model's choice and names the log entry. -/

open Sys2Proof Sys2Proof.Machine

/-! ### Encoding -/

/-- R81, R84: decoding the word of any well-formed instruction, with every operand, gives it back. -/
def Obligations.DecodeEncodeRoundTrip : Prop :=
  ∀ i : Instr, i.wellFormed Config.params = true → decode (encode i) = .ok i

/-- R81, R84: a word that decodes is the word of the instruction read from it, so no bit of a word is dropped. -/
def Obligations.EncodeDecodeRoundTrip : Prop :=
  ∀ (w : TraceWord) (i : Instr), decode w = .ok i → encode i = w ∧ i.wellFormed Config.params = true

/-- R84, R89: a word decodes exactly when it matches a row of the opcode table, to an instruction with that row's
mnemonic, and no two rows match one word. -/
def Obligations.DecodeAcceptsExactlyTableRows : Prop :=
  (∀ w : TraceWord, (∃ i, decode w = .ok i) ↔ ∃ r ∈ opcodeRows, r.admits w = true) ∧
  (∀ (w : TraceWord) (i : Instr), decode w = .ok i → ∀ r ∈ opcodeRows, r.admits w = true → r.mnemonic = i.mnemonic) ∧
  opcodeRows.Pairwise (fun r q => ∀ w : TraceWord, ¬(r.admits w = true ∧ q.admits w = true))

/-- R89 says which words are reserved (those that match no row: agent 3; MAIN 13 and 14; ISR 7 to 15; ENV 2 to 14; an
unused operand field that is not 0) and that a runner refuses them. The model's choice (log 12): each class has a name,
and a word reserved twice over is named by its agent first, then by its op, then by its unused fields. -/
def Obligations.ReservedWordsRejectedByClass : Prop :=
  ∀ w : TraceWord,
    (aaField w = 3#2 → decode w = .error .reservedAgent) ∧
    (aaField w = 0#2 → (opField w = 13#4 ∨ opField w = 14#4) → decode w = .error .reservedMainOp) ∧
    (aaField w = 1#2 → 7 ≤ (opField w).toNat → decode w = .error .reservedIsrOp) ∧
    (aaField w = 2#2 → 2 ≤ (opField w).toNat → (opField w).toNat ≤ 14 → decode w = .error .reservedEnvOp) ∧
    (∀ i : Instr, i.stepCode = aaField w ++ opField w →
      ((i.format ≠ .mb ∧ (lvlField w = true ∨ nowField w ≠ 0#32)) ∨ (i.format ≠ .mk ∧ okField w = true)) →
      decode w = .error .unusedFieldNotZero) ∧
    ((∃ why, decode w = .error why) ↔ ∀ r ∈ opcodeRows, r.admits w = false) ∧
    (∀ why, decode w = .error why → ∀ s : State, runTurn (.word w) s = .refused (.reservedEncoding why))

/-- Words written out from R81 and R86 to R88 (vectors V1 to V15 of spec file 95) decode as listed there. -/
def Obligations.SampleWordsDecode : Prop :=
  decode 0x0000000000#40 = .ok .poll ∧ decode 0x1C000003E8#40 = .ok (.dbInc false 1000#32) ∧
  decode 0x1E00001388#40 = .ok (.dbInc true 5000#32) ∧ decode 0x20FFFFFFFF#40 = .ok (.dbDec false 4294967295#32) ∧
  decode 0x2900000000#40 = .ok (.initTmr true) ∧ decode 0x2800000000#40 = .ok (.initTmr false) ∧
  decode 0x5800000000#40 = .ok .iRet ∧ decode 0xBC00000000#40 = .ok .reset ∧
  decode 0x0100000000#40 = .error .unusedFieldNotZero ∧ decode 0x3400000000#40 = .error .reservedMainOp ∧
  decode 0x5C00000000#40 = .error .reservedIsrOp ∧ decode 0x8800000000#40 = .error .reservedEnvOp ∧
  decode 0xC000000000#40 = .error .reservedAgent

/-! ### Steps, turns and enabling -/

/-- The model's form of a trace (log 1): a step whose next turn is a word takes it off the trace, moves the index of the
free values on, and is `exec` of the decoded instruction; a reserved word is refused by its class (log 12). -/
def Obligations.StepRunsDecodedWord : Prop :=
  ∀ (s : State) (w : TraceWord) (rest : List Turn), s.trace = .word w :: rest →
    (∀ i, decode w = .ok i → step s = exec i { s with trace := rest, draws := s.draws + 1 }) ∧
    (∀ why, decode w = .error why → step s = .refused (.reservedEncoding why))

/-- R23, R24: between steps `MS` and `IS` hold the code of the next micro-operation of their agent, and a step of the
sequencer runs it with the inputs on its ports. -/
def Obligations.SequencerTurnsRunNamedOperation : Prop :=
  ∀ (s : State) (lvl ok : Bool) (now : Millis), s.flt = 0#3 →
    (s.is = 0#3 →
      (s.ms = 0#4 → runTurn (.main lvl ok now) s = exec .poll s) ∧
      (s.ms = 1#4 → runTurn (.main lvl ok now) s = exec .csEnter s) ∧
      (s.ms = 2#4 → runTurn (.main lvl ok now) s = exec .load s) ∧
      (s.ms = 3#4 → runTurn (.main lvl ok now) s = exec .dec s) ∧
      (s.ms = 4#4 → runTurn (.main lvl ok now) s = exec .store s) ∧
      (s.ms = 5#4 → runTurn (.main lvl ok now) s = exec .csExit s) ∧
      (s.ms = 6#4 → runTurn (.main lvl ok now) s = exec .toggle s) ∧
      (s.ms = 7#4 → runTurn (.main lvl ok now) s = exec (.dbInc lvl now) s) ∧
      (s.ms = 8#4 → runTurn (.main lvl ok now) s = exec (.dbDec lvl now) s) ∧
      (s.ms = 9#4 → runTurn (.main lvl ok now) s = exec .setAlarm s) ∧
      (s.ms = 10#4 → runTurn (.main lvl ok now) s = exec (.initTmr ok) s) ∧
      (s.ms = 11#4 → runTurn (.main lvl ok now) s = exec .initAlarm s) ∧
      (s.ms = 12#4 → runTurn (.main lvl ok now) s = exec .initEn s)) ∧
    (s.is = 0#3 → runTurn .isr s = exec .iEnter s) ∧
    (s.is = 1#3 → runTurn .isr s = exec .iCsEnter s) ∧
    (s.is = 2#3 → runTurn .isr s = exec .iLoad s) ∧
    (s.is = 3#3 → runTurn .isr s = exec .iInc s) ∧
    (s.is = 4#3 → runTurn .isr s = exec .iStore s) ∧
    (s.is = 5#3 → runTurn .isr s = exec .iCsExit s) ∧
    (s.is = 6#3 → runTurn .isr s = exec .iRet s)

/-- R185: a sequencer that finds a reserved value in its register raises `ILLEGAL_STATE`, code 4; no word names such a
step, and no run from reset comes to one. -/
def Obligations.ReservedSequencerCodesRaise : Prop :=
  (∀ (s : State) (lvl ok : Bool) (now : Millis), s.flt = 0#3 → s.is = 0#3 → (s.ms = 13#4 ∨ s.ms = 14#4) →
    runTurn (.main lvl ok now) s = .next { s with flt := 4#3, ms := 15#4 }) ∧
  (∀ s : State, s.flt = 0#3 → s.is = 7#3 → runTurn .isr s = .next { s with flt := 4#3, ms := 15#4 }) ∧
  (∀ i : Instr, i.stepCode ≠ 0x0D#6 ∧ i.stepCode ≠ 0x0E#6 ∧ i.stepCode ≠ 0x17#6) ∧
  (∀ s : State, Reachable s → s.ms ≠ 13#4 ∧ s.ms ≠ 14#4 ∧ s.is ≠ 7#3 ∧ s.flt ≠ 4#3)

/-- R14 with R84: an instruction has a step in exactly the states in which its agent may take it, and is refused in
every other state. After R102 and R201 `USTEP` is enabled in the timed refinement only and replaces `ALARM` there. The
model's choices: which tick source the unit has is a field of its own, so that `ALARM` needs `timed = false` and `USTEP`
`timed = true` beside the condition of the opcode table (log 6); the refusal of `HALT` has a name of its own, where R149
says "refused as not enabled" (log 12). -/
def Obligations.InstructionStepsExactlyWhenEnabled : Prop :=
  ∀ (i : Instr) (s : State),
    ((∃ t, exec i s = .next t) ↔ Enabled i s) ∧
    (¬Enabled i s → exec i s = .refused (if i = .halt then .haltNeverEnabled else .notEnabled))

/-- R181: raising writes `FLT` and `MS` and nothing else, from an unfaulted state, in three instructions only; a faulted
unit has no step but `RESET`. The model's choice (log 11): a turn of either sequencer in a faulted unit, which has no
step there, ends in the fault `halted`. -/
def Obligations.RaisingHaltsUnit : Prop :=
  (∀ (i : Instr) (s t : State), i ≠ .reset → exec i s = .next t → t.flt ≠ s.flt →
    s.flt = 0#3 ∧ t = { s with flt := t.flt, ms := 15#4 } ∧
      ((i = .initTmr false ∧ t.flt = 1#3) ∨ (i = .iInc ∧ t.flt = 2#3) ∨ (i = .dec ∧ t.flt = 3#3))) ∧
  (∀ s : State, s.flt ≠ 0#3 →
    (∀ (i : Instr) (t : State), exec i s = .next t → i = .reset) ∧
    (∀ (lvl ok : Bool) (now : Millis), runTurn (.main lvl ok now) s = .fault .halted) ∧
    runTurn .isr s = .fault .halted ∧ (∃ t, exec .reset s = .next t ∧ t.flt = 0#3))

/-- The spec's inference of R49, column "written by" (with `RESET`, which takes the value away from the items it leaves
unspecified): an instruction not listed for an item does not change it. The model's own fields: `timed`, `draws` and
`trace` are changed by no instruction, `alarmWr` by the two that strobe (log 6, log 13, log 15). -/
def Obligations.WritersOfEachItem : Prop :=
  ∀ (i : Instr) (s t : State), exec i s = .next t → i ≠ .reset →
    (t.ms ≠ s.ms → i.agent = .main ∨ i = .iInc) ∧
    (t.is ≠ s.is → i.agent = .isr) ∧
    (t.pt ≠ s.pt → i = .store ∨ i = .iStore) ∧
    (t.tm ≠ s.tm → i = .poll ∨ i = .load ∨ i = .dec) ∧
    (t.ti ≠ s.ti → i = .iLoad ∨ i = .iInc) ∧
    (t.ip ≠ s.ip → i = .alarm ∨ i = .ustep ∨ i = .iEnter) ∧
    (t.im ≠ s.im → i = .csEnter ∨ i = .csExit) ∧
    (t.csi ≠ s.csi → i = .iCsEnter ∨ i = .iCsExit) ∧
    (t.en ≠ s.en → i = .initEn) ∧
    (t.ar ≠ s.ar ∨ t.av ≠ s.av ∨ t.alarmWr ≠ s.alarmWr → i = .initAlarm ∨ i = .setAlarm) ∧
    (t.out ≠ s.out ∨ t.outPin ≠ s.outPin → i = .toggle) ∧
    (t.per ≠ s.per → ∃ lvl now, i = .dbInc lvl now ∨ i = .dbDec lvl now) ∧
    (t.lvInc ≠ s.lvInc ∨ t.laInc ≠ s.laInc → ∃ lvl now, i = .dbInc lvl now) ∧
    (t.lvDec ≠ s.lvDec ∨ t.laDec ≠ s.laDec → ∃ lvl now, i = .dbDec lvl now) ∧
    (t.flt ≠ s.flt → (∃ ok, i = .initTmr ok) ∨ i = .iInc ∨ i = .dec) ∧
    (t.tc ≠ s.tc → i = .ustep ∨ (∃ ok, i = .initTmr ok) ∨ i = .setAlarm) ∧
    t.timed = s.timed ∧ t.draws = s.draws ∧ t.trace = s.trace

/-- R42 (10_state.md section 7) with R127: no ISR micro-operation reads or writes `OUT`, `PER`, `LA`, `LV`, `AV`, `AR`,
`EN`, `TM` or `out_pin`: with any other values in them its outcome is the same, with those values kept. Nor does one
write `IM`, nor `MS` but by a fault. -/
def Obligations.IsrIgnoresMainRegisters : Prop :=
  ∀ (i : Instr) (s v : State), i.agent = .isr →
    exec i (s.withMainRegs v) = mapNext (fun t => t.withMainRegs v) (exec i s) ∧
    (∀ t, exec i s = .next t → t.im = s.im ∧ (t.ms = s.ms ∨ (t.flt ≠ 0#3 ∧ t.ms = 15#4)))

/-- The spec's inference of R68: while the main loop holds its section no ISR micro-operation occurs, and `CS_ENTER`
finds the ISR's section empty; while the ISR holds its own no MAIN micro-operation occurs. -/
def Obligations.SectionsExcludeOtherAgent : Prop :=
  ∀ s : State, StateInvariants s →
    (s.im = true → ∀ i : Instr, i.agent = .isr → exec i s = .refused .notEnabled) ∧
    (s.csi = true → ∀ (i : Instr) (t : State), i.agent = .main → exec i s ≠ .next t) ∧
    (∀ t, exec .csEnter s = .next t → t.im = true ∧ t.csi = false ∧ t.is = 0#3)

/-- R14, R24: while `IS` is not 0 the MAIN agent has no step, by word or by turn of its sequencer. The model's choices:
such a turn is refused as not enabled, while at `MS = 15`, left out here, it is the fault `halted` (log 11); such an
instruction is refused as not enabled, `HALT`, left out here, under a name of its own (log 12). -/
def Obligations.MainWaitsWhileIsrRuns : Prop :=
  ∀ s : State, s.is ≠ 0#3 → s.flt = 0#3 → s.ms ≠ 15#4 →
    (∀ i : Instr, i.agent = .main → i ≠ .halt → exec i s = .refused .notEnabled) ∧
    (∀ (lvl ok : Bool) (now : Millis), runTurn (.main lvl ok now) s = .refused .notEnabled)

/-- The spec's inference of R202: every run of the timed refinement, with each firing `USTEP` read as an `ALARM` and
each other one erased, is a run of the untimed unit. R201: in the timed refinement no run takes an `ALARM`, in the
untimed unit none takes a `USTEP`, and a run keeps the tick source (a field of the model's own, log 6). -/
def Obligations.TimedRunsAreUntimedRuns : Prop :=
  ∀ (is : List Instr) (s t : State), execAll is s = .next t →
    execAll (untimeRun is s) s.untimed = .next t.untimed ∧ .ustep ∉ untimeRun is s ∧ t.timed = s.timed ∧
    (s.timed = true → .alarm ∉ is) ∧ (s.timed = false → .ustep ∉ is ∧ untimeRun is s = is)

/-- The model's choice (log 3), after R14 and R190 (e): where the trace is empty the scheduler picks an agent that has
an enabled step, so a step is always taken. -/
def Obligations.SchedulerAlwaysSteps : Prop :=
  ∀ s : State, s.trace = [] → ∃ t, step s = .next t ∧ t.draws = s.draws + 1 ∧ t.trace = []

/-- The model's choice (log 2), after 93 U6 and U7: each of the seven registers without a reset value gives what was
written, and while it holds no value yet a free value, whatever its reset value is. For `TM` and `TI` this departs from
R21 and R22, which ask that such a read be a fault, never zero; no run from reset reads one. -/
def Obligations.RegistersReadWhatWasWritten : Prop :=
  ∀ s : State,
    (∀ v, (s.setTm v).readTm = v) ∧ (∀ v, (s.setTi v).readTi = v) ∧
    (∀ v, (s.programAlarm v).readAv = BitVec.ofNat 32 v ∧ (s.programAlarm v).readAr = true) ∧
    (∀ now, (s.latchInc now).readLaInc = now) ∧ (∀ now, (s.latchDec now).readLaDec = now) ∧
    (∀ o, (s.drive o).outPinPort = o) ∧
    (∀ v, ({ s with tm := ⟨v, false⟩ } : State).readTm = Config.unwrittenTm s.draws) ∧
    (∀ v, ({ s with ti := ⟨v, false⟩ } : State).readTi = Config.unwrittenTi s.draws) ∧
    (∀ v, ({ s with av := ⟨v, false⟩ } : State).readAv = Config.unwrittenAv s.draws) ∧
    (∀ v, ({ s with ar := ⟨v, false⟩ } : State).readAr = Config.unwrittenAr s.draws) ∧
    (∀ v, ({ s with laInc := ⟨v, false⟩ } : State).readLaInc = Config.unwrittenLaInc s.draws) ∧
    (∀ v, ({ s with laDec := ⟨v, false⟩ } : State).readLaDec = Config.unwrittenLaDec s.draws) ∧
    (∀ v, ({ s with outPin := ⟨v, false⟩ } : State).outPinPort = Config.undrivenPin s.draws)

/-- The model's choice (log 4), after R45: the true time of the free scheduler never decreases, and the port shows it
modulo `2^32`. -/
def Obligations.TrueTimeNeverDecreases : Prop :=
  ∀ j k : Nat, j ≤ k → trueTime j ≤ trueTime k ∧ (sampleClock k).toNat = trueTime k % 2 ^ 32

/-! ### Each instruction: what it does where it is enabled, and its refusal elsewhere -/

/-- R142. -/
def Obligations.PollReadsCounterAndBranches : Prop :=
  ∀ s : State,
    (s.flt = 0#3 → s.is = 0#3 → s.ms = 0#4 →
      exec .poll s = .next { s with tm := ⟨s.pt, true⟩, ms := if s.pt = 0#32 then 0#4 else 1#4 }) ∧
    (¬Enabled .poll s → exec .poll s = .refused .notEnabled) ∧ Instr.stepCode .poll = 0x00#6 ∧ Instr.format .poll = .m0

/-- R143, R147: entering and leaving the main-side section set and clear `IM`, which disables the entry to the ISR and
not the tick source's step (`ALARM`, or `USTEP` in the timed refinement, log 6); that on entry the ISR is not in its own
section is the spec's inference at R143 (a). -/
def Obligations.MainSectionSetsAndClearsMask : Prop :=
  ∀ s : State,
    (s.flt = 0#3 → s.is = 0#3 → s.ms = 1#4 → exec .csEnter s = .next { s with im := true, ms := 2#4 }) ∧
    (¬Enabled .csEnter s → exec .csEnter s = .refused .notEnabled) ∧
    Instr.stepCode .csEnter = 0x01#6 ∧ Instr.format .csEnter = .m0 ∧
    (StateInvariants s → Enabled .csEnter s → s.csi = false) ∧
    (s.im = true → ¬Enabled .iEnter s ∧ (s.en = true → s.flt = 0#3 → Enabled (tickSourceInstr s.timed) s)) ∧
    (s.flt = 0#3 → s.is = 0#3 → s.ms = 5#4 → exec .csExit s = .next { s with im := false, ms := 6#4 }) ∧
    (¬Enabled .csExit s → exec .csExit s = .refused .notEnabled) ∧
    Instr.stepCode .csExit = 0x05#6 ∧ Instr.format .csExit = .m0 ∧
    (∀ t, exec .csExit s = .next t → 0 < s.ip → Enabled .iEnter t)

/-- R144; that in every run from reset the value read is at least 1 is the spec's inference there. -/
def Obligations.LoadRereadsCounter : Prop :=
  ∀ s : State,
    (s.flt = 0#3 → s.is = 0#3 → s.ms = 2#4 → exec .load s = .next { s with tm := ⟨s.pt, true⟩, ms := 3#4 }) ∧
    (¬Enabled .load s → exec .load s = .refused .notEnabled) ∧
    Instr.stepCode .load = 0x02#6 ∧ Instr.format .load = .m0 ∧
    (Reachable s → Enabled .load s → 1 ≤ s.pt.toNat)

/-- R145: it decrements `TM`; at 0 it raises `PT_UNDERFLOW`, code 3. That no run from reset comes to it is the spec's
inference there, from R144. -/
def Obligations.DecDecrementsOrRaises : Prop :=
  ∀ s : State,
    (s.flt = 0#3 → s.is = 0#3 → s.ms = 3#4 → s.readTm ≠ 0#32 →
      exec .dec s = .next { s with tm := ⟨s.readTm - 1#32, true⟩, ms := 4#4 }) ∧
    (s.flt = 0#3 → s.is = 0#3 → s.ms = 3#4 → s.readTm = 0#32 →
      exec .dec s = .next { s with flt := 3#3, ms := 15#4 }) ∧
    (¬Enabled .dec s → exec .dec s = .refused .notEnabled) ∧ Instr.stepCode .dec = 0x03#6 ∧ Instr.format .dec = .m0 ∧
    (s.tm.written = true → s.readTm = s.tm.value) ∧
    (Reachable s → Enabled .dec s → s.readTm ≠ 0#32)

/-- R146; that in every run from reset the write lowers the counter by exactly 1 is the spec's inference at R70. -/
def Obligations.StoreWritesCounter : Prop :=
  ∀ s : State,
    (s.flt = 0#3 → s.is = 0#3 → s.ms = 4#4 → exec .store s = .next { s with pt := s.readTm, ms := 5#4 }) ∧
    (¬Enabled .store s → exec .store s = .refused .notEnabled) ∧
    Instr.stepCode .store = 0x04#6 ∧ Instr.format .store = .m0 ∧
    (s.tm.written = true → s.readTm = s.tm.value) ∧
    (Reachable s → Enabled .store s → s.readTm.toNat + 1 = s.pt.toNat)

/-- R148: `OUT` is inverted and the pin is driven with the new level. -/
def Obligations.ToggleInvertsOutputAndDrivesPin : Prop :=
  ∀ s : State,
    (s.flt = 0#3 → s.is = 0#3 → s.ms = 6#4 →
      exec .toggle s = .next { s with out := !s.out, outPin := ⟨!s.out, true⟩, ms := 7#4 }) ∧
    (¬Enabled .toggle s → exec .toggle s = .refused .notEnabled) ∧
    Instr.stepCode .toggle = 0x06#6 ∧ Instr.format .toggle = .m0 ∧
    (∀ t, exec .toggle s = .next t → t.outPinPort = !s.out)

/-- R163: the acceptance test and the new period are spelled out; a rejected sample changes only `MS`. -/
def Obligations.DbIncAcceptsAndShortens : Prop :=
  ∀ (s : State) (lvl : Bool) (now : Millis),
    (s.flt = 0#3 → s.is = 0#3 → s.ms = 7#4 →
      lvl = false ∧ (s.lvInc = false ∨ 200 < (now - s.readLaInc).toNat) →
      exec (.dbInc lvl now) s = .next { s with
        lvInc := true, laInc := ⟨now, true⟩, ms := 8#4,
        per := if s.per.toNat < 150 then 100#16 else s.per - 50#16 }) ∧
    (s.flt = 0#3 → s.is = 0#3 → s.ms = 7#4 →
      ¬(lvl = false ∧ (s.lvInc = false ∨ 200 < (now - s.readLaInc).toNat)) →
      exec (.dbInc lvl now) s = .next { s with ms := 8#4 }) ∧
    (¬Enabled (.dbInc lvl now) s → exec (.dbInc lvl now) s = .refused .notEnabled) ∧
    Instr.stepCode (.dbInc lvl now) = 0x07#6 ∧ Instr.format (.dbInc lvl now) = .mb ∧
    (s.laInc.written = true → s.readLaInc = s.laInc.value)

/-- R164: the same for Decrease. -/
def Obligations.DbDecAcceptsAndLengthens : Prop :=
  ∀ (s : State) (lvl : Bool) (now : Millis),
    (s.flt = 0#3 → s.is = 0#3 → s.ms = 8#4 →
      lvl = false ∧ (s.lvDec = false ∨ 200 < (now - s.readLaDec).toNat) →
      exec (.dbDec lvl now) s = .next { s with
        lvDec := true, laDec := ⟨now, true⟩, ms := 9#4,
        per := if 1950 < s.per.toNat then 2000#16 else s.per + 50#16 }) ∧
    (s.flt = 0#3 → s.is = 0#3 → s.ms = 8#4 →
      ¬(lvl = false ∧ (s.lvDec = false ∨ 200 < (now - s.readLaDec).toNat)) →
      exec (.dbDec lvl now) s = .next { s with ms := 9#4 }) ∧
    (¬Enabled (.dbDec lvl now) s → exec (.dbDec lvl now) s = .refused .notEnabled) ∧
    Instr.stepCode (.dbDec lvl now) = 0x08#6 ∧ Instr.format (.dbDec lvl now) = .mb ∧
    (s.laDec.written = true → s.readLaDec = s.laDec.value)

/-- R106, R107: `AV` becomes `PER * 1000` without truncation, `AR` 1, with one strobe; `TC` is zeroed under
`SETALARM_RESETS_COUNT` and kept otherwise. -/
def Obligations.SetAlarmProgramsPeriod : Prop :=
  ∀ s : State,
    (s.flt = 0#3 → s.is = 0#3 → s.ms = 9#4 →
      exec .setAlarm s = .next { s with
        av := ⟨BitVec.ofNat 32 (s.per.toNat * 1000), true⟩, ar := ⟨true, true⟩, alarmWr := s.alarmWr + 1,
        tc := if Config.setAlarmResetsCount = true then 0 else s.tc, ms := 0#4 }) ∧
    (∀ t, exec .setAlarm s = .next t → t.av.value.toNat = s.per.toNat * 1000 ∧ t.alarmValuePort = t.av.value) ∧
    (¬Enabled .setAlarm s → exec .setAlarm s = .refused .notEnabled) ∧
    Instr.stepCode .setAlarm = 0x09#6 ∧ Instr.format .setAlarm = .m0

/-- R103: with the platform up the count is zeroed and startup goes on; else `STARTUP_FAIL`, code 1. That in every run
from reset the timer is still disabled there and no ISR is in progress is inferred, after R103 (c) and R245. -/
def Obligations.InitTmrStartsOrFails : Prop :=
  ∀ s : State,
    (s.flt = 0#3 → s.is = 0#3 → s.ms = 10#4 →
      exec (.initTmr true) s = .next { s with tc := 0, ms := 11#4 } ∧
      exec (.initTmr false) s = .next { s with flt := 1#3, ms := 15#4 }) ∧
    (∀ ok, ¬Enabled (.initTmr ok) s → exec (.initTmr ok) s = .refused .notEnabled) ∧
    (∀ ok, Instr.stepCode (.initTmr ok) = 0x0A#6 ∧ Instr.format (.initTmr ok) = .mk) ∧
    (Reachable s → s.ms = 10#4 → s.en = false ∧ s.is = 0#3)

/-- R104, R105: the first alarm value is 500000 and the flag 1, with one strobe; then the timer is enabled and the main
loop begins, and the tick source's step (`ALARM`, or `USTEP` in the timed refinement, log 6) is enabled at once. -/
def Obligations.StartupProgramsThenEnables : Prop :=
  ∀ s : State,
    (s.flt = 0#3 → s.is = 0#3 → s.ms = 11#4 →
      exec .initAlarm s = .next { s with
        av := ⟨500000#32, true⟩, ar := ⟨true, true⟩, alarmWr := s.alarmWr + 1, ms := 12#4 }) ∧
    (¬Enabled .initAlarm s → exec .initAlarm s = .refused .notEnabled) ∧
    Instr.stepCode .initAlarm = 0x0B#6 ∧ Instr.format .initAlarm = .m0 ∧
    (s.flt = 0#3 → s.is = 0#3 → s.ms = 12#4 → exec .initEn s = .next { s with en := true, ms := 0#4 }) ∧
    (¬Enabled .initEn s → exec .initEn s = .refused .notEnabled) ∧
    Instr.stepCode .initEn = 0x0C#6 ∧ Instr.format .initEn = .m0 ∧
    (∀ t, exec .initEn s = .next t → Enabled (tickSourceInstr t.timed) t ∧ t.timerEnPort = true)

/-- R149: `HALT` is never enabled: its word decodes and is refused in every state, the sequencer at `MS = 15` has no
step, the faulted unit has none but `RESET`, and an instruction brings `MS` to 15 only by raising. The model's choices:
the refusal is `haltNeverEnabled`, where R149 says "refused as not enabled" (log 12), and the turn of the sequencer ends
in the fault `halted` (log 11). -/
def Obligations.HaltNeverSteps : Prop :=
  decode 0x3C00000000#40 = .ok .halt ∧ Instr.stepCode .halt = 0x0F#6 ∧ Instr.format .halt = .m0 ∧
  ∀ s : State, exec .halt s = .refused .haltNeverEnabled ∧
    (s.ms = 15#4 → ∀ (lvl ok : Bool) (now : Millis), runTurn (.main lvl ok now) s = .fault .halted) ∧
    (s.ms = 15#4 → s.flt ≠ 0#3 → ∀ (i : Instr) (t : State), exec i s = .next t → i = .reset) ∧
    (∀ (i : Instr) (t : State), exec i s = .next t → t.ms = 15#4 → s.ms = 15#4 ∨ t.flt ≠ 0#3)

/-- R120: one pending alarm is taken, unless the mask is set, a run is in progress or nothing is pending. At which `MS`
it may be taken is the spec's inference at R120 (c). -/
def Obligations.IEnterTakesOnePending : Prop :=
  ∀ s : State,
    (s.flt = 0#3 → s.is = 0#3 → 0 < s.ip → s.im = false → exec .iEnter s = .next { s with ip := s.ip - 1, is := 1#3 }) ∧
    (s.im = true ∨ s.is ≠ 0#3 ∨ s.ip = 0 ∨ s.flt ≠ 0#3 → exec .iEnter s = .refused .notEnabled) ∧
    Instr.stepCode .iEnter = 0x10#6 ∧ Instr.format .iEnter = .i0 ∧
    (Reachable s → Enabled .iEnter s →
      s.ms = 0#4 ∨ s.ms = 1#4 ∨ s.ms = 6#4 ∨ s.ms = 7#4 ∨ s.ms = 8#4 ∨ s.ms = 9#4)

/-- R121, R125: the ISR-side section sets and clears `CSI`, never waits and leaves `IM`; that `IM` is 0 there is the
spec's inference at R121 (a). -/
def Obligations.IsrSectionSetsAndClearsFlag : Prop :=
  ∀ s : State,
    (s.flt = 0#3 → s.is = 1#3 → exec .iCsEnter s = .next { s with csi := true, is := 2#3 }) ∧
    (¬Enabled .iCsEnter s → exec .iCsEnter s = .refused .notEnabled) ∧
    Instr.stepCode .iCsEnter = 0x11#6 ∧ Instr.format .iCsEnter = .i0 ∧
    (StateInvariants s → s.is = 1#3 → s.im = false) ∧
    (s.flt = 0#3 → s.is = 5#3 → exec .iCsExit s = .next { s with csi := false, is := 6#3 }) ∧
    (¬Enabled .iCsExit s → exec .iCsExit s = .refused .notEnabled) ∧
    Instr.stepCode .iCsExit = 0x15#6 ∧ Instr.format .iCsExit = .i0

/-- R122. -/
def Obligations.ILoadReadsCounter : Prop :=
  ∀ s : State,
    (s.flt = 0#3 → s.is = 2#3 → exec .iLoad s = .next { s with ti := ⟨s.pt, true⟩, is := 3#3 }) ∧
    (¬Enabled .iLoad s → exec .iLoad s = .refused .notEnabled) ∧
    Instr.stepCode .iLoad = 0x12#6 ∧ Instr.format .iLoad = .i0

/-- R123: it increments `TI`; at the largest value it raises `PT_OVERFLOW`, code 2: no wrap, no saturation. -/
def Obligations.IIncIncrementsOrRaises : Prop :=
  ∀ s : State,
    (s.flt = 0#3 → s.is = 3#3 → s.readTi ≠ 4294967295#32 →
      exec .iInc s = .next { s with ti := ⟨s.readTi + 1#32, true⟩, is := 4#3 } ∧
        (s.readTi + 1#32).toNat = s.readTi.toNat + 1) ∧
    (s.flt = 0#3 → s.is = 3#3 → s.readTi = 4294967295#32 →
      exec .iInc s = .next { s with flt := 2#3, ms := 15#4 }) ∧
    (¬Enabled .iInc s → exec .iInc s = .refused .notEnabled) ∧
    Instr.stepCode .iInc = 0x13#6 ∧ Instr.format .iInc = .i0 ∧
    (s.ti.written = true → s.readTi = s.ti.value)

/-- R124: and no other operation of the ISR changes the counter. -/
def Obligations.IStoreWritesCounter : Prop :=
  ∀ s : State,
    (s.flt = 0#3 → s.is = 4#3 → exec .iStore s = .next { s with pt := s.readTi, is := 5#3 }) ∧
    (¬Enabled .iStore s → exec .iStore s = .refused .notEnabled) ∧
    Instr.stepCode .iStore = 0x14#6 ∧ Instr.format .iStore = .i0 ∧
    (s.ti.written = true → s.readTi = s.ti.value) ∧
    (∀ (i : Instr) (t : State), i.agent = .isr → i ≠ .iStore → exec i s = .next t → t.pt = s.pt)

/-- R126, R193: the return writes `IS` alone, and another pending alarm can be taken at once. -/
def Obligations.IRetReturnsRestoringNothing : Prop :=
  ∀ s : State,
    (s.flt = 0#3 → s.is = 6#3 → exec .iRet s = .next { s with is := 0#3 }) ∧
    (¬Enabled .iRet s → exec .iRet s = .refused .notEnabled) ∧
    Instr.stepCode .iRet = 0x16#6 ∧ Instr.format .iRet = .i0 ∧
    (∀ t, StateInvariants s → exec .iRet s = .next t → 0 < s.ip → Enabled .iEnter t)

/-- R101: one more alarm is pending, whatever `IM`, `CSI`, `IS` and `MS` hold; none before the timer is enabled. R102,
R201: in the timed refinement, which a field of the model's own tells apart (log 6), `ALARM` is not used. -/
def Obligations.AlarmAddsOnePending : Prop :=
  ∀ s : State,
    (s.en = true → s.flt = 0#3 → s.timed = false → exec .alarm s = .next { s with ip := s.ip + 1 }) ∧
    (s.en = false ∨ s.flt ≠ 0#3 ∨ s.timed = true → exec .alarm s = .refused .notEnabled) ∧
    Instr.stepCode .alarm = 0x20#6 ∧ Instr.format .alarm = .e0

/-- R102: the count moves by one modulo `2^TC_WIDTH`; it fires when it reaches or passes the alarm value (`ge`) or
equals it (`eq`), and a firing tick makes one alarm pending and reloads when auto-reload is on. The timed refinement
alone has this step (R14, R201), which a field of the model's own tells apart (log 6). -/
def Obligations.UstepCountsAndFires : Prop :=
  ∀ (s : State) (c : Nat), c = (s.tc + 1) % 2 ^ Config.tcWidth →
    (s.en = true → s.flt = 0#3 → s.timed = true →
      ((Config.alarmCompare = .ge ∧ s.readAv.toNat ≤ c) ∨ (Config.alarmCompare = .eq ∧ c = s.readAv.toNat)) →
      exec .ustep s = .next { s with ip := s.ip + 1, tc := if s.readAr = true then 0 else c }) ∧
    (s.en = true → s.flt = 0#3 → s.timed = true →
      ¬((Config.alarmCompare = .ge ∧ s.readAv.toNat ≤ c) ∨ (Config.alarmCompare = .eq ∧ c = s.readAv.toNat)) →
      exec .ustep s = .next { s with tc := c }) ∧
    (s.en = false ∨ s.flt ≠ 0#3 ∨ s.timed = false → exec .ustep s = .refused .notEnabled) ∧
    Instr.stepCode .ustep = 0x21#6 ∧ Instr.format .ustep = .e0

/-- R220: in every state, faulted or not, every item of the unit goes to its reset value, and the seven unspecified ones
lose theirs; it is the only way out of a faulted state. The model's choice (log 15), of which R220 says nothing: its own
fields `timed`, `alarmWr`, `draws` and `trace` are kept. -/
def Obligations.ResetRewritesEveryItem : Prop :=
  ∀ s : State, (s.flt ≠ 0#3 → ∀ (i : Instr) (u : State), exec i s = .next u → i = .reset) ∧ ∃ t, exec .reset s = .next t ∧
    t.ms = 10#4 ∧ t.is = 0#3 ∧ t.pt = 0#32 ∧ t.ip = 0 ∧ t.im = false ∧ t.csi = false ∧ t.en = false ∧ t.out = false ∧
    t.per = 500#16 ∧ t.lvInc = false ∧ t.lvDec = false ∧ t.flt = 0#3 ∧ t.tc = 0 ∧
    t.tm.written = false ∧ t.ti.written = false ∧ t.ar.written = false ∧ t.av.written = false ∧
    t.laInc.written = false ∧ t.laDec.written = false ∧ t.outPin.written = false ∧
    t.timed = s.timed ∧ t.alarmWr = s.alarmWr ∧ t.draws = s.draws ∧ t.trace = s.trace ∧
    Instr.stepCode .reset = 0x2F#6 ∧ Instr.format .reset = .e0

/-! ### Debounce and period arithmetic -/

/-- R162: asserted, and no prior press or strictly more than 200 ms, unsigned and modular, since the last accepted one;
when not accepted nothing is written. -/
def Obligations.AcceptanceTestIsStrict : Prop :=
  (∀ (lv lvl : Bool) (la now : Millis),
    accepts Config.params lv la lvl now = true ↔
      lvl = false ∧ (lv = false ∨ 200 < (now.toNat + 2 ^ 32 - la.toNat) % 2 ^ 32)) ∧
  (∀ (s : State) (lvl : Bool) (now : Millis),
    (accepts Config.params s.lvInc s.readLaInc lvl now = false → s.pressInc lvl now = s) ∧
    (accepts Config.params s.lvDec s.readLaDec lvl now = false → s.pressDec lvl now = s))

/-- The spec's inference of R170: the elapsed time is the true one below `2^32` ms, across a wrap too; beyond, it
aliases; the first press is immune. -/
def Obligations.ElapsedAcrossClockWrap : Prop :=
  (∀ t0 t1 : Nat, t0 ≤ t1 →
    elapsed Config.params (BitVec.ofNat 32 t1) (BitVec.ofNat 32 t0) = (t1 - t0) % 2 ^ 32 ∧
    (t1 - t0 < 2 ^ 32 → elapsed Config.params (BitVec.ofNat 32 t1) (BitVec.ofNat 32 t0) = t1 - t0)) ∧
  (∀ t : Nat, elapsed Config.params (BitVec.ofNat 32 (t + 2 ^ 32 + 100)) (BitVec.ofNat 32 t) = 100 ∧
    accepts Config.params true (BitVec.ofNat 32 t) false (BitVec.ofNat 32 (t + 2 ^ 32 + 100)) = false) ∧
  (∀ la now : Millis, accepts Config.params false la false now = true) ∧
  elapsed Config.params 0x000000C8#32 0xFFFFFF9C#32 = 300 ∧
  accepts Config.params true 0xFFFFFF9C#32 false 0x000000C8#32 = true

/-- The spec's inference of R165, for every well-formed choice of the parameters (R7): the guarded steps are `max` and
`min` over the integers, keep the range, are idempotent at the bounds, and bring a period beyond a bound back to it;
with the default parameters no result exceeds the register. -/
def Obligations.PeriodStepsClamp : Prop :=
  (∀ (p : Params) (per : Nat), p.WellFormed →
    ((shorten p per : Int) = max ((per : Int) - p.stepMs) p.floorMs) ∧
    (lengthen p per = min (per + p.stepMs) p.ceilMs) ∧
    (p.floorMs ≤ per → per ≤ p.ceilMs →
      p.floorMs ≤ shorten p per ∧ shorten p per ≤ p.ceilMs ∧ p.floorMs ≤ lengthen p per ∧ lengthen p per ≤ p.ceilMs) ∧
    shorten p p.floorMs = p.floorMs ∧ lengthen p p.ceilMs = p.ceilMs ∧
    (per < p.floorMs + p.stepMs → shorten p per = p.floorMs) ∧ (p.ceilMs < per + p.stepMs → lengthen p per = p.ceilMs)) ∧
  Config.params.WellFormed ∧
  (∀ per : Period, (toPeriod (shorten Config.params per.toNat)).toNat = shorten Config.params per.toNat ∧
    (toPeriod (lengthen Config.params per.toNat)).toNat = lengthen Config.params per.toNat)

/-- The spec's inference of R168: two presses accepted in one transaction both apply, Increase first; away from the
floor they cancel, at the floor the result is 150, at the ceiling 2000; the other order would differ at the ceiling. -/
def Obligations.SimultaneousPressesApplyBoth : Prop :=
  (∀ (s : State) (n m : Millis), s.flt = 0#3 → s.is = 0#3 → s.ms = 7#4 →
    (s.lvInc = false ∨ 200 < (n - s.readLaInc).toNat) → (s.lvDec = false ∨ 200 < (m - s.readLaDec).toNat) →
    ∃ t, execAll [.dbInc false n, .dbDec false m] s = .next t ∧
      t.per.toNat = min (max (s.per.toNat - 50) 100 + 50) 2000 ∧
      (150 ≤ s.per.toNat → s.per.toNat ≤ 2000 → t.per = s.per) ∧ (s.per = 100#16 → t.per = 150#16) ∧
      t.lvInc = true ∧ t.laInc = ⟨n, true⟩ ∧ t.lvDec = true ∧ t.laDec = ⟨m, true⟩ ∧ t.ms = 9#4) ∧
  shorten Config.params (lengthen Config.params 100) = 100 ∧ shorten Config.params (lengthen Config.params 2000) = 1950 ∧
  lengthen Config.params (shorten Config.params 2000) = 2000

/-- What R102 (a) says of the period of the alarm: with auto-reload and the `ge` compare, exactly one of every `AV`
consecutive ticks fires while `AV` is unchanged: from a count below `AV`, `n` ticks fire `(TC + n) / AV` times. -/
def Obligations.AlarmPeriodIsAlarmValue : Prop :=
  ∀ width av tc n : Nat, 1 ≤ av → av < 2 ^ width → tc < av → firings .ge width av true tc n = (tc + n) / av

/-! ### The handoff -/

/-- The spec's inference of R70 and R71: under the invariant a store moves the counter by exactly one, and nothing else
but `RESET` moves it. -/
def Obligations.LockedCounterMovesByOne : Prop :=
  ∀ s t : State, Inv s →
    (exec .store s = .next t → t.pt.toNat + 1 = s.pt.toNat) ∧
    (exec .iStore s = .next t → t.pt.toNat = s.pt.toNat + 1) ∧
    (∀ i : Instr, i ≠ .store → i ≠ .iStore → i ≠ .reset → exec i s = .next t → ∀ a, memRead a t = memRead a s)

/-- The spec's inference of R128: one complete ISR run, with any numbers of steps of the tick source between its
micro-operations. In the untimed unit each is an alarm; in the timed refinement (R202) each is a timer tick, of which those
that fire are alarms, and the timer count moves too. -/
def Obligations.IsrRunNetEffect : Prop :=
  ∀ (s : State) (a b c d e f n : Nat),
    s.flt = 0#3 → s.is = 0#3 → 0 < s.ip → s.im = false → s.pt.toNat < 2 ^ 32 - 1 → n = a + b + c + d + e + f →
    ((s.en = true ∧ s.timed = false) ∨ n = 0 →
      execAll (isrRunAmid .alarm a b c d e f) s =
        .next { s with
          pt := s.pt + 1#32, ip := s.ip - 1 + n, is := 0#3, csi := false, ti := ⟨s.pt + 1#32, true⟩ }) ∧
    (s.en = true → s.timed = true →
      ∃ count, execAll (isrRunAmid .ustep a b c d e f) s =
        .next { s with
          pt := s.pt + 1#32,
          ip := s.ip - 1 + firings Config.alarmCompare Config.tcWidth s.readAv.toNat s.readAr s.tc n,
          is := 0#3, csi := false, ti := ⟨s.pt + 1#32, true⟩, tc := count })

/-- The spec's inference of R127: a run of the ISR sequencer is exactly seven turns long: in progress after one to six
of them, over after seven. -/
def Obligations.IsrRunTakesSevenTurns : Prop :=
  ∀ (s : State) (k : Nat), s.flt = 0#3 → s.is = 0#3 → 0 < s.ip → s.im = false → s.pt ≠ 4294967295#32 → k ≤ 7 →
    ∃ t, runTurns (List.replicate k .isr) s = .next t ∧ (t.is = 0#3 ↔ k = 0 ∨ k = 7) ∧ t.flt = 0#3 ∧ t.ms = s.ms

/-- The spec's inference of R151: one consume transaction from `POLL` on, with complete ISR runs at every point where
`IM = 0`: after `POLL`, after `CS_EXIT`, after `TOGGLE`, after `DB_INC` and after `DB_DEC`. -/
def Obligations.ConsumeTransactionNetEffect : Prop :=
  ∀ (s : State) (li ld : Bool) (ni nd : Millis) (a b c d e : Nat),
    s.flt = 0#3 → s.ms = 0#4 → s.is = 0#3 → s.im = false → 1 ≤ s.pt.toNat →
    a + b + c + d + e ≤ s.ip → s.pt.toNat + (a + b + c + d + e) < 2 ^ 32 →
    ∃ t, execAll ([.poll] ++ isrRuns a ++ [.csEnter, .load, .dec, .store, .csExit] ++ isrRuns b ++ [.toggle] ++ isrRuns c
        ++ [.dbInc li ni] ++ isrRuns d ++ [.dbDec ld nd] ++ isrRuns e ++ [.setAlarm]) s = .next t ∧
      t.ms = 0#4 ∧ t.is = 0#3 ∧ t.flt = 0#3 ∧ t.im = false ∧
      t.pt.toNat + 1 = s.pt.toNat + (a + b + c + d + e) ∧
      t.ip = s.ip - (a + b + c + d + e) ∧
      t.out = !s.out ∧ t.outPin = ⟨!s.out, true⟩ ∧
      t.tm = ⟨BitVec.ofNat 32 (s.pt.toNat + a - 1), true⟩ ∧
      t.per = ((s.pressInc li ni).pressDec ld nd).per ∧
      t.lvInc = (s.pressInc li ni).lvInc ∧ t.laInc = (s.pressInc li ni).laInc ∧
      t.lvDec = ((s.pressInc li ni).pressDec ld nd).lvDec ∧ t.laDec = ((s.pressInc li ni).pressDec ld nd).laDec ∧
      t.av = ⟨BitVec.ofNat 32 (t.per.toNat * 1000), true⟩ ∧ t.ar = ⟨true, true⟩

/-! ### Reset, startup and ends of runs -/

/-- R48: the value of every item after reset; the items the spec leaves unspecified hold no value. -/
def Obligations.ResetStateIsAsSpecified : Prop :=
  State.reset.ms = 10#4 ∧ State.reset.is = 0#3 ∧ State.reset.pt = 0#32 ∧ State.reset.ip = 0 ∧ State.reset.im = false ∧
  State.reset.csi = false ∧ State.reset.en = false ∧ State.reset.out = false ∧ State.reset.per = 500#16 ∧
  State.reset.lvInc = false ∧ State.reset.lvDec = false ∧ State.reset.flt = 0#3 ∧ State.reset.tc = 0 ∧
  State.reset.tm.written = false ∧ State.reset.ti.written = false ∧ State.reset.ar.written = false ∧
  State.reset.av.written = false ∧ State.reset.laInc.written = false ∧ State.reset.laDec.written = false ∧
  State.reset.outPin.written = false

/-- The spec's inference of R223: the state at the first `POLL` when no alarm has fired, with either tick source (a
field of the model's own, log 6). -/
def Obligations.BootReachesFirstPoll : Prop :=
  ∀ timed : Bool, ∃ t, execAll [.initTmr true, .initAlarm, .initEn] (State.resetWith timed) = .next t ∧
    t.ms = 0#4 ∧ t.is = 0#3 ∧ t.pt = 0#32 ∧ t.ip = 0 ∧ t.im = false ∧ t.csi = false ∧ t.en = true ∧
    t.ar = ⟨true, true⟩ ∧ t.av = ⟨500000#32, true⟩ ∧ t.out = false ∧ t.per = 500#16 ∧ t.lvInc = false ∧
    t.lvDec = false ∧ t.flt = 0#3 ∧ t.tm.written = false ∧ t.ti.written = false ∧ t.laInc.written = false ∧
    t.laDec.written = false ∧ t.outPin.written = false

/-- R224: a startup failure halts the unit with the timer disabled and the pin undriven, and only `RESET` leaves. -/
def Obligations.StartupFailureHaltsUntilReset : Prop :=
  ∀ timed : Bool, ∃ t, exec (.initTmr false) (State.resetWith timed) = .next t ∧ t.flt = 1#3 ∧ t.ms = 15#4 ∧ t.en = false ∧
    t.outPin.written = false ∧ ∀ (i : Instr) (u : State), exec i t = .next u → i = .reset

/-- R240: in a quiescent state the busy-poll goes on and stays quiescent; a faulted state is not quiescent. -/
def Obligations.IdlePollStaysQuiescent : Prop :=
  ∀ s : State,
    (s.Quiescent → exec .poll s = .next { s with tm := ⟨0#32, true⟩ } ∧ ({ s with tm := ⟨0#32, true⟩ } : State).Quiescent) ∧
    (s.Faulted → ¬s.Quiescent)

/-! ### Invariants -/

/-- The invariant holds right after reset, with either tick source (log 6). -/
def Obligations.InvariantHoldsAtReset : Prop := Inv State.reset ∧ ∀ timed : Bool, Inv (State.resetWith timed)

/-- The invariant is kept by every step from every state that has it. -/
def Obligations.StepKeepsInvariant : Prop :=
  ∀ s t : State, Inv s → Machine.step s = .next t → Inv t

/-- The spec's inference of R245: the ten invariants hold in every state that a run from reset comes to, under any
schedule and any inputs. -/
def Obligations.ReachableStateInvariants : Prop := ∀ s : State, Reachable s → StateInvariants s

/-- The spec's inference of R246: whenever the loop is at `POLL` with the timer enabled, the timer is programmed with
the current half-period. -/
def Obligations.TimerProgrammedAtPoll : Prop :=
  ∀ s : State, Reachable s → s.ms = 0#4 → s.en = true →
    s.av.written = true ∧ s.av.value.toNat = s.per.toNat * 1000 ∧ s.ar = ⟨true, true⟩

/-- The spec's inference of R167, and with it the alarm values of R107: the half-period stays within its bounds and a
multiple of 50, and every alarm value programmed is 1000 times such a period. -/
def Obligations.PeriodStaysInRange : Prop :=
  ∀ s : State, Reachable s →
    100 ≤ s.per.toNat ∧ s.per.toNat ≤ 2000 ∧ 50 ∣ s.per.toNat ∧
    (s.av.written = true → ∃ p, 100 ≤ p ∧ p ≤ 2000 ∧ 50 ∣ p ∧ s.av.value.toNat = p * 1000)

/-- The spec's inference of R247: tick conservation in every counted run from reset. -/
def Obligations.TickConservation : Prop := ∀ (l : Ledger) (s : State), CountedRun l s → TicksConserved l s

/-- The spec's inference of R248: the toggle count in every counted run from reset, and in a quiescent state `S = G = A`
and `OUT` is the parity. -/
def Obligations.ToggleCountMatchesTicks : Prop :=
  ∀ (l : Ledger) (s : State), CountedRun l s →
    TogglesCounted l s ∧
    (s.Quiescent → l.stores = l.alarms ∧ l.toggles = l.alarms ∧ s.out = decide (l.alarms % 2 = 1))

/-- The spec's inference of R247 and R248 as one step: from every state with the invariant, whatever the ledger, an
instruction keeps tick conservation and the toggle count. -/
def Obligations.StepKeepsLedger : Prop :=
  ∀ (l : Ledger) (i : Instr) (s t : State), Inv s → TicksConserved l s → TogglesCounted l s → exec i s = .next t →
    TicksConserved (l.after i s) t ∧ TogglesCounted (l.after i s) t
end

