-- ==== Sys2Proof/Laws/Decode.lean ====
section
/-! SUPPORT. The fields of an assembled word, and what each part of the decoder can answer. -/

namespace Sys2Proof

/-! ### Fields of an assembled word (R81) -/

/-- Every bit of an assembled word: `now`, then `ok`, then `lvl`, then the step code. -/
theorem getLsbD_assemble (c : StepCode) (lvl ok : Bool) (now : Millis) (j : Nat) :
    (assemble c lvl ok now).getLsbD j =
      if j < 32 then now.getLsbD j else if j = 32 then ok else if j = 33 then lvl else c.getLsbD (j - 34) := by
  change BitVec.getLsbD (w := 6 + 1 + 1 + 32) (c ++ BitVec.ofBool lvl ++ BitVec.ofBool ok ++ now) j = _
  rw [BitVec.getLsbD_append, BitVec.getLsbD_append, BitVec.getLsbD_append]
  by_cases h32 : j < 32
  · simp [h32]
  · rcases Nat.lt_trichotomy j 33 with h | h | h
    · have : j = 32 := by omega
      subst this; simp
    · subst h; simp
    · have h1 : ¬(j - 32 < 1) := by omega
      have h2 : j ≠ 32 := by omega
      by_cases h3 : j = 33
      · omega
      · have h4 : ¬(j - 32 - 1 < 1) := by omega
        have h5 : j - 32 - 1 - 1 = j - 34 := by omega
        simp only [h32, h1, h2, h3, h4, h5, if_false]

theorem aaField_assemble (c : StepCode) (lvl ok : Bool) (now : Millis) :
    aaField (assemble c lvl ok now) = c.extractLsb' 4 2 := by
  ext j hj
  have h1 : ¬(38 + j < 32) := by omega
  have h2 : 38 + j ≠ 32 := by omega
  have h3 : 38 + j ≠ 33 := by omega
  have h4 : 38 + j - 34 = 4 + j := by omega
  simp only [aaField, BitVec.getElem_extractLsb', getLsbD_assemble, h1, h2, h3, h4, if_false]

theorem opField_assemble (c : StepCode) (lvl ok : Bool) (now : Millis) :
    opField (assemble c lvl ok now) = c.extractLsb' 0 4 := by
  ext j hj
  have h1 : ¬(34 + j < 32) := by omega
  have h2 : 34 + j ≠ 32 := by omega
  have h3 : 34 + j - 34 = 0 + j := by omega
  by_cases h4 : 34 + j = 33
  · omega
  · simp only [opField, BitVec.getElem_extractLsb', getLsbD_assemble, h1, h2, h3, h4, if_false]

@[simp] theorem lvlField_assemble (c : StepCode) (lvl ok : Bool) (now : Millis) :
    lvlField (assemble c lvl ok now) = lvl := by
  rw [lvlField, getLsbD_assemble]; simp

@[simp] theorem okField_assemble (c : StepCode) (lvl ok : Bool) (now : Millis) :
    okField (assemble c lvl ok now) = ok := by
  rw [okField, getLsbD_assemble]; simp

@[simp] theorem nowField_assemble (c : StepCode) (lvl ok : Bool) (now : Millis) :
    nowField (assemble c lvl ok now) = now := by
  ext j hj
  simp [nowField, BitVec.getElem_extractLsb', getLsbD_assemble, hj, BitVec.getLsbD_eq_getElem]

/-! ### What the decoder's parts can answer -/

theorem decodeBare_ok {i j : Instr} {lvl ok : Bool} {now : Millis} :
    decodeBare i lvl ok now = .ok j ↔ (lvl = false ∧ ok = false ∧ now = 0#32) ∧ i = j := by
  unfold decodeBare
  split <;> simp_all

theorem decodeButton_ok {i j : Instr} {ok : Bool} {now : Millis} :
    decodeButton i ok now = .ok j ↔ ok = false ∧ i = j := by
  have h : now.toNat < 2 ^ Config.params.clkWidth := now.isLt
  unfold decodeButton
  simp only [h, if_true]
  cases ok <;> simp

theorem decodePlatform_ok {i j : Instr} {lvl : Bool} {now : Millis} :
    decodePlatform i lvl now = .ok j ↔ (lvl = false ∧ now = 0#32) ∧ i = j := by
  unfold decodePlatform
  split <;> simp_all

end Sys2Proof
end

