-- ==== Sys2Proof/Laws/State.lean ====
section
/-! SUPPORT. What each update of the state does to each field: one lemma for each, true by rfl, so that no later proof
unfolds an update. The update of the shared cell is in Laws/Ops.lean. -/

namespace Sys2Proof.Machine

variable (s : State)

/-! ### setMs -/

@[simp] theorem State.setMs_ms (c : MainCode) : (s.setMs c).ms = c := rfl
@[simp] theorem State.setMs_is (c : MainCode) : (s.setMs c).is = s.is := rfl
@[simp] theorem State.setMs_pt (c : MainCode) : (s.setMs c).pt = s.pt := rfl
@[simp] theorem State.setMs_tm (c : MainCode) : (s.setMs c).tm = s.tm := rfl
@[simp] theorem State.setMs_ti (c : MainCode) : (s.setMs c).ti = s.ti := rfl
@[simp] theorem State.setMs_ip (c : MainCode) : (s.setMs c).ip = s.ip := rfl
@[simp] theorem State.setMs_im (c : MainCode) : (s.setMs c).im = s.im := rfl
@[simp] theorem State.setMs_csi (c : MainCode) : (s.setMs c).csi = s.csi := rfl
@[simp] theorem State.setMs_en (c : MainCode) : (s.setMs c).en = s.en := rfl
@[simp] theorem State.setMs_ar (c : MainCode) : (s.setMs c).ar = s.ar := rfl
@[simp] theorem State.setMs_av (c : MainCode) : (s.setMs c).av = s.av := rfl
@[simp] theorem State.setMs_out (c : MainCode) : (s.setMs c).out = s.out := rfl
@[simp] theorem State.setMs_per (c : MainCode) : (s.setMs c).per = s.per := rfl
@[simp] theorem State.setMs_lvInc (c : MainCode) : (s.setMs c).lvInc = s.lvInc := rfl
@[simp] theorem State.setMs_laInc (c : MainCode) : (s.setMs c).laInc = s.laInc := rfl
@[simp] theorem State.setMs_lvDec (c : MainCode) : (s.setMs c).lvDec = s.lvDec := rfl
@[simp] theorem State.setMs_laDec (c : MainCode) : (s.setMs c).laDec = s.laDec := rfl
@[simp] theorem State.setMs_flt (c : MainCode) : (s.setMs c).flt = s.flt := rfl
@[simp] theorem State.setMs_outPin (c : MainCode) : (s.setMs c).outPin = s.outPin := rfl
@[simp] theorem State.setMs_tc (c : MainCode) : (s.setMs c).tc = s.tc := rfl
@[simp] theorem State.setMs_timed (c : MainCode) : (s.setMs c).timed = s.timed := rfl
@[simp] theorem State.setMs_alarmWr (c : MainCode) : (s.setMs c).alarmWr = s.alarmWr := rfl
@[simp] theorem State.setMs_draws (c : MainCode) : (s.setMs c).draws = s.draws := rfl
@[simp] theorem State.setMs_trace (c : MainCode) : (s.setMs c).trace = s.trace := rfl

/-! ### setIs -/

@[simp] theorem State.setIs_ms (c : IsrCode) : (s.setIs c).ms = s.ms := rfl
@[simp] theorem State.setIs_is (c : IsrCode) : (s.setIs c).is = c := rfl
@[simp] theorem State.setIs_pt (c : IsrCode) : (s.setIs c).pt = s.pt := rfl
@[simp] theorem State.setIs_tm (c : IsrCode) : (s.setIs c).tm = s.tm := rfl
@[simp] theorem State.setIs_ti (c : IsrCode) : (s.setIs c).ti = s.ti := rfl
@[simp] theorem State.setIs_ip (c : IsrCode) : (s.setIs c).ip = s.ip := rfl
@[simp] theorem State.setIs_im (c : IsrCode) : (s.setIs c).im = s.im := rfl
@[simp] theorem State.setIs_csi (c : IsrCode) : (s.setIs c).csi = s.csi := rfl
@[simp] theorem State.setIs_en (c : IsrCode) : (s.setIs c).en = s.en := rfl
@[simp] theorem State.setIs_ar (c : IsrCode) : (s.setIs c).ar = s.ar := rfl
@[simp] theorem State.setIs_av (c : IsrCode) : (s.setIs c).av = s.av := rfl
@[simp] theorem State.setIs_out (c : IsrCode) : (s.setIs c).out = s.out := rfl
@[simp] theorem State.setIs_per (c : IsrCode) : (s.setIs c).per = s.per := rfl
@[simp] theorem State.setIs_lvInc (c : IsrCode) : (s.setIs c).lvInc = s.lvInc := rfl
@[simp] theorem State.setIs_laInc (c : IsrCode) : (s.setIs c).laInc = s.laInc := rfl
@[simp] theorem State.setIs_lvDec (c : IsrCode) : (s.setIs c).lvDec = s.lvDec := rfl
@[simp] theorem State.setIs_laDec (c : IsrCode) : (s.setIs c).laDec = s.laDec := rfl
@[simp] theorem State.setIs_flt (c : IsrCode) : (s.setIs c).flt = s.flt := rfl
@[simp] theorem State.setIs_outPin (c : IsrCode) : (s.setIs c).outPin = s.outPin := rfl
@[simp] theorem State.setIs_tc (c : IsrCode) : (s.setIs c).tc = s.tc := rfl
@[simp] theorem State.setIs_timed (c : IsrCode) : (s.setIs c).timed = s.timed := rfl
@[simp] theorem State.setIs_alarmWr (c : IsrCode) : (s.setIs c).alarmWr = s.alarmWr := rfl
@[simp] theorem State.setIs_draws (c : IsrCode) : (s.setIs c).draws = s.draws := rfl
@[simp] theorem State.setIs_trace (c : IsrCode) : (s.setIs c).trace = s.trace := rfl

/-! ### setTm -/

@[simp] theorem State.setTm_ms (v : Count) : (s.setTm v).ms = s.ms := rfl
@[simp] theorem State.setTm_is (v : Count) : (s.setTm v).is = s.is := rfl
@[simp] theorem State.setTm_pt (v : Count) : (s.setTm v).pt = s.pt := rfl
@[simp] theorem State.setTm_tm (v : Count) : (s.setTm v).tm = ⟨v, true⟩ := rfl
@[simp] theorem State.setTm_ti (v : Count) : (s.setTm v).ti = s.ti := rfl
@[simp] theorem State.setTm_ip (v : Count) : (s.setTm v).ip = s.ip := rfl
@[simp] theorem State.setTm_im (v : Count) : (s.setTm v).im = s.im := rfl
@[simp] theorem State.setTm_csi (v : Count) : (s.setTm v).csi = s.csi := rfl
@[simp] theorem State.setTm_en (v : Count) : (s.setTm v).en = s.en := rfl
@[simp] theorem State.setTm_ar (v : Count) : (s.setTm v).ar = s.ar := rfl
@[simp] theorem State.setTm_av (v : Count) : (s.setTm v).av = s.av := rfl
@[simp] theorem State.setTm_out (v : Count) : (s.setTm v).out = s.out := rfl
@[simp] theorem State.setTm_per (v : Count) : (s.setTm v).per = s.per := rfl
@[simp] theorem State.setTm_lvInc (v : Count) : (s.setTm v).lvInc = s.lvInc := rfl
@[simp] theorem State.setTm_laInc (v : Count) : (s.setTm v).laInc = s.laInc := rfl
@[simp] theorem State.setTm_lvDec (v : Count) : (s.setTm v).lvDec = s.lvDec := rfl
@[simp] theorem State.setTm_laDec (v : Count) : (s.setTm v).laDec = s.laDec := rfl
@[simp] theorem State.setTm_flt (v : Count) : (s.setTm v).flt = s.flt := rfl
@[simp] theorem State.setTm_outPin (v : Count) : (s.setTm v).outPin = s.outPin := rfl
@[simp] theorem State.setTm_tc (v : Count) : (s.setTm v).tc = s.tc := rfl
@[simp] theorem State.setTm_timed (v : Count) : (s.setTm v).timed = s.timed := rfl
@[simp] theorem State.setTm_alarmWr (v : Count) : (s.setTm v).alarmWr = s.alarmWr := rfl
@[simp] theorem State.setTm_draws (v : Count) : (s.setTm v).draws = s.draws := rfl
@[simp] theorem State.setTm_trace (v : Count) : (s.setTm v).trace = s.trace := rfl

/-! ### setTi -/

@[simp] theorem State.setTi_ms (v : Count) : (s.setTi v).ms = s.ms := rfl
@[simp] theorem State.setTi_is (v : Count) : (s.setTi v).is = s.is := rfl
@[simp] theorem State.setTi_pt (v : Count) : (s.setTi v).pt = s.pt := rfl
@[simp] theorem State.setTi_tm (v : Count) : (s.setTi v).tm = s.tm := rfl
@[simp] theorem State.setTi_ti (v : Count) : (s.setTi v).ti = ⟨v, true⟩ := rfl
@[simp] theorem State.setTi_ip (v : Count) : (s.setTi v).ip = s.ip := rfl
@[simp] theorem State.setTi_im (v : Count) : (s.setTi v).im = s.im := rfl
@[simp] theorem State.setTi_csi (v : Count) : (s.setTi v).csi = s.csi := rfl
@[simp] theorem State.setTi_en (v : Count) : (s.setTi v).en = s.en := rfl
@[simp] theorem State.setTi_ar (v : Count) : (s.setTi v).ar = s.ar := rfl
@[simp] theorem State.setTi_av (v : Count) : (s.setTi v).av = s.av := rfl
@[simp] theorem State.setTi_out (v : Count) : (s.setTi v).out = s.out := rfl
@[simp] theorem State.setTi_per (v : Count) : (s.setTi v).per = s.per := rfl
@[simp] theorem State.setTi_lvInc (v : Count) : (s.setTi v).lvInc = s.lvInc := rfl
@[simp] theorem State.setTi_laInc (v : Count) : (s.setTi v).laInc = s.laInc := rfl
@[simp] theorem State.setTi_lvDec (v : Count) : (s.setTi v).lvDec = s.lvDec := rfl
@[simp] theorem State.setTi_laDec (v : Count) : (s.setTi v).laDec = s.laDec := rfl
@[simp] theorem State.setTi_flt (v : Count) : (s.setTi v).flt = s.flt := rfl
@[simp] theorem State.setTi_outPin (v : Count) : (s.setTi v).outPin = s.outPin := rfl
@[simp] theorem State.setTi_tc (v : Count) : (s.setTi v).tc = s.tc := rfl
@[simp] theorem State.setTi_timed (v : Count) : (s.setTi v).timed = s.timed := rfl
@[simp] theorem State.setTi_alarmWr (v : Count) : (s.setTi v).alarmWr = s.alarmWr := rfl
@[simp] theorem State.setTi_draws (v : Count) : (s.setTi v).draws = s.draws := rfl
@[simp] theorem State.setTi_trace (v : Count) : (s.setTi v).trace = s.trace := rfl

/-! ### setPer -/

@[simp] theorem State.setPer_ms (p : Period) : (s.setPer p).ms = s.ms := rfl
@[simp] theorem State.setPer_is (p : Period) : (s.setPer p).is = s.is := rfl
@[simp] theorem State.setPer_pt (p : Period) : (s.setPer p).pt = s.pt := rfl
@[simp] theorem State.setPer_tm (p : Period) : (s.setPer p).tm = s.tm := rfl
@[simp] theorem State.setPer_ti (p : Period) : (s.setPer p).ti = s.ti := rfl
@[simp] theorem State.setPer_ip (p : Period) : (s.setPer p).ip = s.ip := rfl
@[simp] theorem State.setPer_im (p : Period) : (s.setPer p).im = s.im := rfl
@[simp] theorem State.setPer_csi (p : Period) : (s.setPer p).csi = s.csi := rfl
@[simp] theorem State.setPer_en (p : Period) : (s.setPer p).en = s.en := rfl
@[simp] theorem State.setPer_ar (p : Period) : (s.setPer p).ar = s.ar := rfl
@[simp] theorem State.setPer_av (p : Period) : (s.setPer p).av = s.av := rfl
@[simp] theorem State.setPer_out (p : Period) : (s.setPer p).out = s.out := rfl
@[simp] theorem State.setPer_per (p : Period) : (s.setPer p).per = p := rfl
@[simp] theorem State.setPer_lvInc (p : Period) : (s.setPer p).lvInc = s.lvInc := rfl
@[simp] theorem State.setPer_laInc (p : Period) : (s.setPer p).laInc = s.laInc := rfl
@[simp] theorem State.setPer_lvDec (p : Period) : (s.setPer p).lvDec = s.lvDec := rfl
@[simp] theorem State.setPer_laDec (p : Period) : (s.setPer p).laDec = s.laDec := rfl
@[simp] theorem State.setPer_flt (p : Period) : (s.setPer p).flt = s.flt := rfl
@[simp] theorem State.setPer_outPin (p : Period) : (s.setPer p).outPin = s.outPin := rfl
@[simp] theorem State.setPer_tc (p : Period) : (s.setPer p).tc = s.tc := rfl
@[simp] theorem State.setPer_timed (p : Period) : (s.setPer p).timed = s.timed := rfl
@[simp] theorem State.setPer_alarmWr (p : Period) : (s.setPer p).alarmWr = s.alarmWr := rfl
@[simp] theorem State.setPer_draws (p : Period) : (s.setPer p).draws = s.draws := rfl
@[simp] theorem State.setPer_trace (p : Period) : (s.setPer p).trace = s.trace := rfl

/-! ### latchInc -/

@[simp] theorem State.latchInc_ms (now : Millis) : (s.latchInc now).ms = s.ms := rfl
@[simp] theorem State.latchInc_is (now : Millis) : (s.latchInc now).is = s.is := rfl
@[simp] theorem State.latchInc_pt (now : Millis) : (s.latchInc now).pt = s.pt := rfl
@[simp] theorem State.latchInc_tm (now : Millis) : (s.latchInc now).tm = s.tm := rfl
@[simp] theorem State.latchInc_ti (now : Millis) : (s.latchInc now).ti = s.ti := rfl
@[simp] theorem State.latchInc_ip (now : Millis) : (s.latchInc now).ip = s.ip := rfl
@[simp] theorem State.latchInc_im (now : Millis) : (s.latchInc now).im = s.im := rfl
@[simp] theorem State.latchInc_csi (now : Millis) : (s.latchInc now).csi = s.csi := rfl
@[simp] theorem State.latchInc_en (now : Millis) : (s.latchInc now).en = s.en := rfl
@[simp] theorem State.latchInc_ar (now : Millis) : (s.latchInc now).ar = s.ar := rfl
@[simp] theorem State.latchInc_av (now : Millis) : (s.latchInc now).av = s.av := rfl
@[simp] theorem State.latchInc_out (now : Millis) : (s.latchInc now).out = s.out := rfl
@[simp] theorem State.latchInc_per (now : Millis) : (s.latchInc now).per = s.per := rfl
@[simp] theorem State.latchInc_lvInc (now : Millis) : (s.latchInc now).lvInc = true := rfl
@[simp] theorem State.latchInc_laInc (now : Millis) : (s.latchInc now).laInc = ⟨now, true⟩ := rfl
@[simp] theorem State.latchInc_lvDec (now : Millis) : (s.latchInc now).lvDec = s.lvDec := rfl
@[simp] theorem State.latchInc_laDec (now : Millis) : (s.latchInc now).laDec = s.laDec := rfl
@[simp] theorem State.latchInc_flt (now : Millis) : (s.latchInc now).flt = s.flt := rfl
@[simp] theorem State.latchInc_outPin (now : Millis) : (s.latchInc now).outPin = s.outPin := rfl
@[simp] theorem State.latchInc_tc (now : Millis) : (s.latchInc now).tc = s.tc := rfl
@[simp] theorem State.latchInc_timed (now : Millis) : (s.latchInc now).timed = s.timed := rfl
@[simp] theorem State.latchInc_alarmWr (now : Millis) : (s.latchInc now).alarmWr = s.alarmWr := rfl
@[simp] theorem State.latchInc_draws (now : Millis) : (s.latchInc now).draws = s.draws := rfl
@[simp] theorem State.latchInc_trace (now : Millis) : (s.latchInc now).trace = s.trace := rfl

/-! ### latchDec -/

@[simp] theorem State.latchDec_ms (now : Millis) : (s.latchDec now).ms = s.ms := rfl
@[simp] theorem State.latchDec_is (now : Millis) : (s.latchDec now).is = s.is := rfl
@[simp] theorem State.latchDec_pt (now : Millis) : (s.latchDec now).pt = s.pt := rfl
@[simp] theorem State.latchDec_tm (now : Millis) : (s.latchDec now).tm = s.tm := rfl
@[simp] theorem State.latchDec_ti (now : Millis) : (s.latchDec now).ti = s.ti := rfl
@[simp] theorem State.latchDec_ip (now : Millis) : (s.latchDec now).ip = s.ip := rfl
@[simp] theorem State.latchDec_im (now : Millis) : (s.latchDec now).im = s.im := rfl
@[simp] theorem State.latchDec_csi (now : Millis) : (s.latchDec now).csi = s.csi := rfl
@[simp] theorem State.latchDec_en (now : Millis) : (s.latchDec now).en = s.en := rfl
@[simp] theorem State.latchDec_ar (now : Millis) : (s.latchDec now).ar = s.ar := rfl
@[simp] theorem State.latchDec_av (now : Millis) : (s.latchDec now).av = s.av := rfl
@[simp] theorem State.latchDec_out (now : Millis) : (s.latchDec now).out = s.out := rfl
@[simp] theorem State.latchDec_per (now : Millis) : (s.latchDec now).per = s.per := rfl
@[simp] theorem State.latchDec_lvInc (now : Millis) : (s.latchDec now).lvInc = s.lvInc := rfl
@[simp] theorem State.latchDec_laInc (now : Millis) : (s.latchDec now).laInc = s.laInc := rfl
@[simp] theorem State.latchDec_lvDec (now : Millis) : (s.latchDec now).lvDec = true := rfl
@[simp] theorem State.latchDec_laDec (now : Millis) : (s.latchDec now).laDec = ⟨now, true⟩ := rfl
@[simp] theorem State.latchDec_flt (now : Millis) : (s.latchDec now).flt = s.flt := rfl
@[simp] theorem State.latchDec_outPin (now : Millis) : (s.latchDec now).outPin = s.outPin := rfl
@[simp] theorem State.latchDec_tc (now : Millis) : (s.latchDec now).tc = s.tc := rfl
@[simp] theorem State.latchDec_timed (now : Millis) : (s.latchDec now).timed = s.timed := rfl
@[simp] theorem State.latchDec_alarmWr (now : Millis) : (s.latchDec now).alarmWr = s.alarmWr := rfl
@[simp] theorem State.latchDec_draws (now : Millis) : (s.latchDec now).draws = s.draws := rfl
@[simp] theorem State.latchDec_trace (now : Millis) : (s.latchDec now).trace = s.trace := rfl

/-! ### setIm -/

@[simp] theorem State.setIm_ms (b : Bool) : (s.setIm b).ms = s.ms := rfl
@[simp] theorem State.setIm_is (b : Bool) : (s.setIm b).is = s.is := rfl
@[simp] theorem State.setIm_pt (b : Bool) : (s.setIm b).pt = s.pt := rfl
@[simp] theorem State.setIm_tm (b : Bool) : (s.setIm b).tm = s.tm := rfl
@[simp] theorem State.setIm_ti (b : Bool) : (s.setIm b).ti = s.ti := rfl
@[simp] theorem State.setIm_ip (b : Bool) : (s.setIm b).ip = s.ip := rfl
@[simp] theorem State.setIm_im (b : Bool) : (s.setIm b).im = b := rfl
@[simp] theorem State.setIm_csi (b : Bool) : (s.setIm b).csi = s.csi := rfl
@[simp] theorem State.setIm_en (b : Bool) : (s.setIm b).en = s.en := rfl
@[simp] theorem State.setIm_ar (b : Bool) : (s.setIm b).ar = s.ar := rfl
@[simp] theorem State.setIm_av (b : Bool) : (s.setIm b).av = s.av := rfl
@[simp] theorem State.setIm_out (b : Bool) : (s.setIm b).out = s.out := rfl
@[simp] theorem State.setIm_per (b : Bool) : (s.setIm b).per = s.per := rfl
@[simp] theorem State.setIm_lvInc (b : Bool) : (s.setIm b).lvInc = s.lvInc := rfl
@[simp] theorem State.setIm_laInc (b : Bool) : (s.setIm b).laInc = s.laInc := rfl
@[simp] theorem State.setIm_lvDec (b : Bool) : (s.setIm b).lvDec = s.lvDec := rfl
@[simp] theorem State.setIm_laDec (b : Bool) : (s.setIm b).laDec = s.laDec := rfl
@[simp] theorem State.setIm_flt (b : Bool) : (s.setIm b).flt = s.flt := rfl
@[simp] theorem State.setIm_outPin (b : Bool) : (s.setIm b).outPin = s.outPin := rfl
@[simp] theorem State.setIm_tc (b : Bool) : (s.setIm b).tc = s.tc := rfl
@[simp] theorem State.setIm_timed (b : Bool) : (s.setIm b).timed = s.timed := rfl
@[simp] theorem State.setIm_alarmWr (b : Bool) : (s.setIm b).alarmWr = s.alarmWr := rfl
@[simp] theorem State.setIm_draws (b : Bool) : (s.setIm b).draws = s.draws := rfl
@[simp] theorem State.setIm_trace (b : Bool) : (s.setIm b).trace = s.trace := rfl

/-! ### setCsi -/

@[simp] theorem State.setCsi_ms (b : Bool) : (s.setCsi b).ms = s.ms := rfl
@[simp] theorem State.setCsi_is (b : Bool) : (s.setCsi b).is = s.is := rfl
@[simp] theorem State.setCsi_pt (b : Bool) : (s.setCsi b).pt = s.pt := rfl
@[simp] theorem State.setCsi_tm (b : Bool) : (s.setCsi b).tm = s.tm := rfl
@[simp] theorem State.setCsi_ti (b : Bool) : (s.setCsi b).ti = s.ti := rfl
@[simp] theorem State.setCsi_ip (b : Bool) : (s.setCsi b).ip = s.ip := rfl
@[simp] theorem State.setCsi_im (b : Bool) : (s.setCsi b).im = s.im := rfl
@[simp] theorem State.setCsi_csi (b : Bool) : (s.setCsi b).csi = b := rfl
@[simp] theorem State.setCsi_en (b : Bool) : (s.setCsi b).en = s.en := rfl
@[simp] theorem State.setCsi_ar (b : Bool) : (s.setCsi b).ar = s.ar := rfl
@[simp] theorem State.setCsi_av (b : Bool) : (s.setCsi b).av = s.av := rfl
@[simp] theorem State.setCsi_out (b : Bool) : (s.setCsi b).out = s.out := rfl
@[simp] theorem State.setCsi_per (b : Bool) : (s.setCsi b).per = s.per := rfl
@[simp] theorem State.setCsi_lvInc (b : Bool) : (s.setCsi b).lvInc = s.lvInc := rfl
@[simp] theorem State.setCsi_laInc (b : Bool) : (s.setCsi b).laInc = s.laInc := rfl
@[simp] theorem State.setCsi_lvDec (b : Bool) : (s.setCsi b).lvDec = s.lvDec := rfl
@[simp] theorem State.setCsi_laDec (b : Bool) : (s.setCsi b).laDec = s.laDec := rfl
@[simp] theorem State.setCsi_flt (b : Bool) : (s.setCsi b).flt = s.flt := rfl
@[simp] theorem State.setCsi_outPin (b : Bool) : (s.setCsi b).outPin = s.outPin := rfl
@[simp] theorem State.setCsi_tc (b : Bool) : (s.setCsi b).tc = s.tc := rfl
@[simp] theorem State.setCsi_timed (b : Bool) : (s.setCsi b).timed = s.timed := rfl
@[simp] theorem State.setCsi_alarmWr (b : Bool) : (s.setCsi b).alarmWr = s.alarmWr := rfl
@[simp] theorem State.setCsi_draws (b : Bool) : (s.setCsi b).draws = s.draws := rfl
@[simp] theorem State.setCsi_trace (b : Bool) : (s.setCsi b).trace = s.trace := rfl

/-! ### enableTimer -/

@[simp] theorem State.enableTimer_ms : (s.enableTimer).ms = s.ms := rfl
@[simp] theorem State.enableTimer_is : (s.enableTimer).is = s.is := rfl
@[simp] theorem State.enableTimer_pt : (s.enableTimer).pt = s.pt := rfl
@[simp] theorem State.enableTimer_tm : (s.enableTimer).tm = s.tm := rfl
@[simp] theorem State.enableTimer_ti : (s.enableTimer).ti = s.ti := rfl
@[simp] theorem State.enableTimer_ip : (s.enableTimer).ip = s.ip := rfl
@[simp] theorem State.enableTimer_im : (s.enableTimer).im = s.im := rfl
@[simp] theorem State.enableTimer_csi : (s.enableTimer).csi = s.csi := rfl
@[simp] theorem State.enableTimer_en : (s.enableTimer).en = true := rfl
@[simp] theorem State.enableTimer_ar : (s.enableTimer).ar = s.ar := rfl
@[simp] theorem State.enableTimer_av : (s.enableTimer).av = s.av := rfl
@[simp] theorem State.enableTimer_out : (s.enableTimer).out = s.out := rfl
@[simp] theorem State.enableTimer_per : (s.enableTimer).per = s.per := rfl
@[simp] theorem State.enableTimer_lvInc : (s.enableTimer).lvInc = s.lvInc := rfl
@[simp] theorem State.enableTimer_laInc : (s.enableTimer).laInc = s.laInc := rfl
@[simp] theorem State.enableTimer_lvDec : (s.enableTimer).lvDec = s.lvDec := rfl
@[simp] theorem State.enableTimer_laDec : (s.enableTimer).laDec = s.laDec := rfl
@[simp] theorem State.enableTimer_flt : (s.enableTimer).flt = s.flt := rfl
@[simp] theorem State.enableTimer_outPin : (s.enableTimer).outPin = s.outPin := rfl
@[simp] theorem State.enableTimer_tc : (s.enableTimer).tc = s.tc := rfl
@[simp] theorem State.enableTimer_timed : (s.enableTimer).timed = s.timed := rfl
@[simp] theorem State.enableTimer_alarmWr : (s.enableTimer).alarmWr = s.alarmWr := rfl
@[simp] theorem State.enableTimer_draws : (s.enableTimer).draws = s.draws := rfl
@[simp] theorem State.enableTimer_trace : (s.enableTimer).trace = s.trace := rfl

/-! ### raise -/

@[simp] theorem State.raise_ms (c : FaultCause) : (s.raise c).ms = 15#4 := rfl
@[simp] theorem State.raise_is (c : FaultCause) : (s.raise c).is = s.is := rfl
@[simp] theorem State.raise_pt (c : FaultCause) : (s.raise c).pt = s.pt := rfl
@[simp] theorem State.raise_tm (c : FaultCause) : (s.raise c).tm = s.tm := rfl
@[simp] theorem State.raise_ti (c : FaultCause) : (s.raise c).ti = s.ti := rfl
@[simp] theorem State.raise_ip (c : FaultCause) : (s.raise c).ip = s.ip := rfl
@[simp] theorem State.raise_im (c : FaultCause) : (s.raise c).im = s.im := rfl
@[simp] theorem State.raise_csi (c : FaultCause) : (s.raise c).csi = s.csi := rfl
@[simp] theorem State.raise_en (c : FaultCause) : (s.raise c).en = s.en := rfl
@[simp] theorem State.raise_ar (c : FaultCause) : (s.raise c).ar = s.ar := rfl
@[simp] theorem State.raise_av (c : FaultCause) : (s.raise c).av = s.av := rfl
@[simp] theorem State.raise_out (c : FaultCause) : (s.raise c).out = s.out := rfl
@[simp] theorem State.raise_per (c : FaultCause) : (s.raise c).per = s.per := rfl
@[simp] theorem State.raise_lvInc (c : FaultCause) : (s.raise c).lvInc = s.lvInc := rfl
@[simp] theorem State.raise_laInc (c : FaultCause) : (s.raise c).laInc = s.laInc := rfl
@[simp] theorem State.raise_lvDec (c : FaultCause) : (s.raise c).lvDec = s.lvDec := rfl
@[simp] theorem State.raise_laDec (c : FaultCause) : (s.raise c).laDec = s.laDec := rfl
@[simp] theorem State.raise_flt (c : FaultCause) : (s.raise c).flt = c.code := rfl
@[simp] theorem State.raise_outPin (c : FaultCause) : (s.raise c).outPin = s.outPin := rfl
@[simp] theorem State.raise_tc (c : FaultCause) : (s.raise c).tc = s.tc := rfl
@[simp] theorem State.raise_timed (c : FaultCause) : (s.raise c).timed = s.timed := rfl
@[simp] theorem State.raise_alarmWr (c : FaultCause) : (s.raise c).alarmWr = s.alarmWr := rfl
@[simp] theorem State.raise_draws (c : FaultCause) : (s.raise c).draws = s.draws := rfl
@[simp] theorem State.raise_trace (c : FaultCause) : (s.raise c).trace = s.trace := rfl

/-! ### enterInterrupt -/

@[simp] theorem State.enterInterrupt_ms : (s.enterInterrupt).ms = s.ms := rfl
@[simp] theorem State.enterInterrupt_is : (s.enterInterrupt).is = 1#3 := rfl
@[simp] theorem State.enterInterrupt_pt : (s.enterInterrupt).pt = s.pt := rfl
@[simp] theorem State.enterInterrupt_tm : (s.enterInterrupt).tm = s.tm := rfl
@[simp] theorem State.enterInterrupt_ti : (s.enterInterrupt).ti = s.ti := rfl
@[simp] theorem State.enterInterrupt_ip : (s.enterInterrupt).ip = s.ip - 1 := rfl
@[simp] theorem State.enterInterrupt_im : (s.enterInterrupt).im = s.im := rfl
@[simp] theorem State.enterInterrupt_csi : (s.enterInterrupt).csi = s.csi := rfl
@[simp] theorem State.enterInterrupt_en : (s.enterInterrupt).en = s.en := rfl
@[simp] theorem State.enterInterrupt_ar : (s.enterInterrupt).ar = s.ar := rfl
@[simp] theorem State.enterInterrupt_av : (s.enterInterrupt).av = s.av := rfl
@[simp] theorem State.enterInterrupt_out : (s.enterInterrupt).out = s.out := rfl
@[simp] theorem State.enterInterrupt_per : (s.enterInterrupt).per = s.per := rfl
@[simp] theorem State.enterInterrupt_lvInc : (s.enterInterrupt).lvInc = s.lvInc := rfl
@[simp] theorem State.enterInterrupt_laInc : (s.enterInterrupt).laInc = s.laInc := rfl
@[simp] theorem State.enterInterrupt_lvDec : (s.enterInterrupt).lvDec = s.lvDec := rfl
@[simp] theorem State.enterInterrupt_laDec : (s.enterInterrupt).laDec = s.laDec := rfl
@[simp] theorem State.enterInterrupt_flt : (s.enterInterrupt).flt = s.flt := rfl
@[simp] theorem State.enterInterrupt_outPin : (s.enterInterrupt).outPin = s.outPin := rfl
@[simp] theorem State.enterInterrupt_tc : (s.enterInterrupt).tc = s.tc := rfl
@[simp] theorem State.enterInterrupt_timed : (s.enterInterrupt).timed = s.timed := rfl
@[simp] theorem State.enterInterrupt_alarmWr : (s.enterInterrupt).alarmWr = s.alarmWr := rfl
@[simp] theorem State.enterInterrupt_draws : (s.enterInterrupt).draws = s.draws := rfl
@[simp] theorem State.enterInterrupt_trace : (s.enterInterrupt).trace = s.trace := rfl

/-! ### leaveInterrupt -/

@[simp] theorem State.leaveInterrupt_ms : (s.leaveInterrupt).ms = s.ms := rfl
@[simp] theorem State.leaveInterrupt_is : (s.leaveInterrupt).is = 0#3 := rfl
@[simp] theorem State.leaveInterrupt_pt : (s.leaveInterrupt).pt = s.pt := rfl
@[simp] theorem State.leaveInterrupt_tm : (s.leaveInterrupt).tm = s.tm := rfl
@[simp] theorem State.leaveInterrupt_ti : (s.leaveInterrupt).ti = s.ti := rfl
@[simp] theorem State.leaveInterrupt_ip : (s.leaveInterrupt).ip = s.ip := rfl
@[simp] theorem State.leaveInterrupt_im : (s.leaveInterrupt).im = s.im := rfl
@[simp] theorem State.leaveInterrupt_csi : (s.leaveInterrupt).csi = s.csi := rfl
@[simp] theorem State.leaveInterrupt_en : (s.leaveInterrupt).en = s.en := rfl
@[simp] theorem State.leaveInterrupt_ar : (s.leaveInterrupt).ar = s.ar := rfl
@[simp] theorem State.leaveInterrupt_av : (s.leaveInterrupt).av = s.av := rfl
@[simp] theorem State.leaveInterrupt_out : (s.leaveInterrupt).out = s.out := rfl
@[simp] theorem State.leaveInterrupt_per : (s.leaveInterrupt).per = s.per := rfl
@[simp] theorem State.leaveInterrupt_lvInc : (s.leaveInterrupt).lvInc = s.lvInc := rfl
@[simp] theorem State.leaveInterrupt_laInc : (s.leaveInterrupt).laInc = s.laInc := rfl
@[simp] theorem State.leaveInterrupt_lvDec : (s.leaveInterrupt).lvDec = s.lvDec := rfl
@[simp] theorem State.leaveInterrupt_laDec : (s.leaveInterrupt).laDec = s.laDec := rfl
@[simp] theorem State.leaveInterrupt_flt : (s.leaveInterrupt).flt = s.flt := rfl
@[simp] theorem State.leaveInterrupt_outPin : (s.leaveInterrupt).outPin = s.outPin := rfl
@[simp] theorem State.leaveInterrupt_tc : (s.leaveInterrupt).tc = s.tc := rfl
@[simp] theorem State.leaveInterrupt_timed : (s.leaveInterrupt).timed = s.timed := rfl
@[simp] theorem State.leaveInterrupt_alarmWr : (s.leaveInterrupt).alarmWr = s.alarmWr := rfl
@[simp] theorem State.leaveInterrupt_draws : (s.leaveInterrupt).draws = s.draws := rfl
@[simp] theorem State.leaveInterrupt_trace : (s.leaveInterrupt).trace = s.trace := rfl

/-! ### ring -/

@[simp] theorem State.ring_ms : (s.ring).ms = s.ms := rfl
@[simp] theorem State.ring_is : (s.ring).is = s.is := rfl
@[simp] theorem State.ring_pt : (s.ring).pt = s.pt := rfl
@[simp] theorem State.ring_tm : (s.ring).tm = s.tm := rfl
@[simp] theorem State.ring_ti : (s.ring).ti = s.ti := rfl
@[simp] theorem State.ring_ip : (s.ring).ip = s.ip + 1 := rfl
@[simp] theorem State.ring_im : (s.ring).im = s.im := rfl
@[simp] theorem State.ring_csi : (s.ring).csi = s.csi := rfl
@[simp] theorem State.ring_en : (s.ring).en = s.en := rfl
@[simp] theorem State.ring_ar : (s.ring).ar = s.ar := rfl
@[simp] theorem State.ring_av : (s.ring).av = s.av := rfl
@[simp] theorem State.ring_out : (s.ring).out = s.out := rfl
@[simp] theorem State.ring_per : (s.ring).per = s.per := rfl
@[simp] theorem State.ring_lvInc : (s.ring).lvInc = s.lvInc := rfl
@[simp] theorem State.ring_laInc : (s.ring).laInc = s.laInc := rfl
@[simp] theorem State.ring_lvDec : (s.ring).lvDec = s.lvDec := rfl
@[simp] theorem State.ring_laDec : (s.ring).laDec = s.laDec := rfl
@[simp] theorem State.ring_flt : (s.ring).flt = s.flt := rfl
@[simp] theorem State.ring_outPin : (s.ring).outPin = s.outPin := rfl
@[simp] theorem State.ring_tc : (s.ring).tc = s.tc := rfl
@[simp] theorem State.ring_timed : (s.ring).timed = s.timed := rfl
@[simp] theorem State.ring_alarmWr : (s.ring).alarmWr = s.alarmWr := rfl
@[simp] theorem State.ring_draws : (s.ring).draws = s.draws := rfl
@[simp] theorem State.ring_trace : (s.ring).trace = s.trace := rfl

/-! ### setTc -/

@[simp] theorem State.setTc_ms (c : Nat) : (s.setTc c).ms = s.ms := rfl
@[simp] theorem State.setTc_is (c : Nat) : (s.setTc c).is = s.is := rfl
@[simp] theorem State.setTc_pt (c : Nat) : (s.setTc c).pt = s.pt := rfl
@[simp] theorem State.setTc_tm (c : Nat) : (s.setTc c).tm = s.tm := rfl
@[simp] theorem State.setTc_ti (c : Nat) : (s.setTc c).ti = s.ti := rfl
@[simp] theorem State.setTc_ip (c : Nat) : (s.setTc c).ip = s.ip := rfl
@[simp] theorem State.setTc_im (c : Nat) : (s.setTc c).im = s.im := rfl
@[simp] theorem State.setTc_csi (c : Nat) : (s.setTc c).csi = s.csi := rfl
@[simp] theorem State.setTc_en (c : Nat) : (s.setTc c).en = s.en := rfl
@[simp] theorem State.setTc_ar (c : Nat) : (s.setTc c).ar = s.ar := rfl
@[simp] theorem State.setTc_av (c : Nat) : (s.setTc c).av = s.av := rfl
@[simp] theorem State.setTc_out (c : Nat) : (s.setTc c).out = s.out := rfl
@[simp] theorem State.setTc_per (c : Nat) : (s.setTc c).per = s.per := rfl
@[simp] theorem State.setTc_lvInc (c : Nat) : (s.setTc c).lvInc = s.lvInc := rfl
@[simp] theorem State.setTc_laInc (c : Nat) : (s.setTc c).laInc = s.laInc := rfl
@[simp] theorem State.setTc_lvDec (c : Nat) : (s.setTc c).lvDec = s.lvDec := rfl
@[simp] theorem State.setTc_laDec (c : Nat) : (s.setTc c).laDec = s.laDec := rfl
@[simp] theorem State.setTc_flt (c : Nat) : (s.setTc c).flt = s.flt := rfl
@[simp] theorem State.setTc_outPin (c : Nat) : (s.setTc c).outPin = s.outPin := rfl
@[simp] theorem State.setTc_tc (c : Nat) : (s.setTc c).tc = c := rfl
@[simp] theorem State.setTc_timed (c : Nat) : (s.setTc c).timed = s.timed := rfl
@[simp] theorem State.setTc_alarmWr (c : Nat) : (s.setTc c).alarmWr = s.alarmWr := rfl
@[simp] theorem State.setTc_draws (c : Nat) : (s.setTc c).draws = s.draws := rfl
@[simp] theorem State.setTc_trace (c : Nat) : (s.setTc c).trace = s.trace := rfl

/-! ### programAlarm -/

@[simp] theorem State.programAlarm_ms (v : Nat) : (s.programAlarm v).ms = s.ms := rfl
@[simp] theorem State.programAlarm_is (v : Nat) : (s.programAlarm v).is = s.is := rfl
@[simp] theorem State.programAlarm_pt (v : Nat) : (s.programAlarm v).pt = s.pt := rfl
@[simp] theorem State.programAlarm_tm (v : Nat) : (s.programAlarm v).tm = s.tm := rfl
@[simp] theorem State.programAlarm_ti (v : Nat) : (s.programAlarm v).ti = s.ti := rfl
@[simp] theorem State.programAlarm_ip (v : Nat) : (s.programAlarm v).ip = s.ip := rfl
@[simp] theorem State.programAlarm_im (v : Nat) : (s.programAlarm v).im = s.im := rfl
@[simp] theorem State.programAlarm_csi (v : Nat) : (s.programAlarm v).csi = s.csi := rfl
@[simp] theorem State.programAlarm_en (v : Nat) : (s.programAlarm v).en = s.en := rfl
@[simp] theorem State.programAlarm_ar (v : Nat) : (s.programAlarm v).ar = ⟨true, true⟩ := rfl
@[simp] theorem State.programAlarm_av (v : Nat) : (s.programAlarm v).av = ⟨BitVec.ofNat 32 v, true⟩ := rfl
@[simp] theorem State.programAlarm_out (v : Nat) : (s.programAlarm v).out = s.out := rfl
@[simp] theorem State.programAlarm_per (v : Nat) : (s.programAlarm v).per = s.per := rfl
@[simp] theorem State.programAlarm_lvInc (v : Nat) : (s.programAlarm v).lvInc = s.lvInc := rfl
@[simp] theorem State.programAlarm_laInc (v : Nat) : (s.programAlarm v).laInc = s.laInc := rfl
@[simp] theorem State.programAlarm_lvDec (v : Nat) : (s.programAlarm v).lvDec = s.lvDec := rfl
@[simp] theorem State.programAlarm_laDec (v : Nat) : (s.programAlarm v).laDec = s.laDec := rfl
@[simp] theorem State.programAlarm_flt (v : Nat) : (s.programAlarm v).flt = s.flt := rfl
@[simp] theorem State.programAlarm_outPin (v : Nat) : (s.programAlarm v).outPin = s.outPin := rfl
@[simp] theorem State.programAlarm_tc (v : Nat) : (s.programAlarm v).tc = s.tc := rfl
@[simp] theorem State.programAlarm_timed (v : Nat) : (s.programAlarm v).timed = s.timed := rfl
@[simp] theorem State.programAlarm_alarmWr (v : Nat) : (s.programAlarm v).alarmWr = s.alarmWr + 1 := rfl
@[simp] theorem State.programAlarm_draws (v : Nat) : (s.programAlarm v).draws = s.draws := rfl
@[simp] theorem State.programAlarm_trace (v : Nat) : (s.programAlarm v).trace = s.trace := rfl

/-! ### drive -/

@[simp] theorem State.drive_ms (o : Bool) : (s.drive o).ms = s.ms := rfl
@[simp] theorem State.drive_is (o : Bool) : (s.drive o).is = s.is := rfl
@[simp] theorem State.drive_pt (o : Bool) : (s.drive o).pt = s.pt := rfl
@[simp] theorem State.drive_tm (o : Bool) : (s.drive o).tm = s.tm := rfl
@[simp] theorem State.drive_ti (o : Bool) : (s.drive o).ti = s.ti := rfl
@[simp] theorem State.drive_ip (o : Bool) : (s.drive o).ip = s.ip := rfl
@[simp] theorem State.drive_im (o : Bool) : (s.drive o).im = s.im := rfl
@[simp] theorem State.drive_csi (o : Bool) : (s.drive o).csi = s.csi := rfl
@[simp] theorem State.drive_en (o : Bool) : (s.drive o).en = s.en := rfl
@[simp] theorem State.drive_ar (o : Bool) : (s.drive o).ar = s.ar := rfl
@[simp] theorem State.drive_av (o : Bool) : (s.drive o).av = s.av := rfl
@[simp] theorem State.drive_out (o : Bool) : (s.drive o).out = o := rfl
@[simp] theorem State.drive_per (o : Bool) : (s.drive o).per = s.per := rfl
@[simp] theorem State.drive_lvInc (o : Bool) : (s.drive o).lvInc = s.lvInc := rfl
@[simp] theorem State.drive_laInc (o : Bool) : (s.drive o).laInc = s.laInc := rfl
@[simp] theorem State.drive_lvDec (o : Bool) : (s.drive o).lvDec = s.lvDec := rfl
@[simp] theorem State.drive_laDec (o : Bool) : (s.drive o).laDec = s.laDec := rfl
@[simp] theorem State.drive_flt (o : Bool) : (s.drive o).flt = s.flt := rfl
@[simp] theorem State.drive_outPin (o : Bool) : (s.drive o).outPin = ⟨o, true⟩ := rfl
@[simp] theorem State.drive_tc (o : Bool) : (s.drive o).tc = s.tc := rfl
@[simp] theorem State.drive_timed (o : Bool) : (s.drive o).timed = s.timed := rfl
@[simp] theorem State.drive_alarmWr (o : Bool) : (s.drive o).alarmWr = s.alarmWr := rfl
@[simp] theorem State.drive_draws (o : Bool) : (s.drive o).draws = s.draws := rfl
@[simp] theorem State.drive_trace (o : Bool) : (s.drive o).trace = s.trace := rfl

/-! ### afterFetch -/

@[simp] theorem State.afterFetch_ms : (s.afterFetch).ms = s.ms := rfl
@[simp] theorem State.afterFetch_is : (s.afterFetch).is = s.is := rfl
@[simp] theorem State.afterFetch_pt : (s.afterFetch).pt = s.pt := rfl
@[simp] theorem State.afterFetch_tm : (s.afterFetch).tm = s.tm := rfl
@[simp] theorem State.afterFetch_ti : (s.afterFetch).ti = s.ti := rfl
@[simp] theorem State.afterFetch_ip : (s.afterFetch).ip = s.ip := rfl
@[simp] theorem State.afterFetch_im : (s.afterFetch).im = s.im := rfl
@[simp] theorem State.afterFetch_csi : (s.afterFetch).csi = s.csi := rfl
@[simp] theorem State.afterFetch_en : (s.afterFetch).en = s.en := rfl
@[simp] theorem State.afterFetch_ar : (s.afterFetch).ar = s.ar := rfl
@[simp] theorem State.afterFetch_av : (s.afterFetch).av = s.av := rfl
@[simp] theorem State.afterFetch_out : (s.afterFetch).out = s.out := rfl
@[simp] theorem State.afterFetch_per : (s.afterFetch).per = s.per := rfl
@[simp] theorem State.afterFetch_lvInc : (s.afterFetch).lvInc = s.lvInc := rfl
@[simp] theorem State.afterFetch_laInc : (s.afterFetch).laInc = s.laInc := rfl
@[simp] theorem State.afterFetch_lvDec : (s.afterFetch).lvDec = s.lvDec := rfl
@[simp] theorem State.afterFetch_laDec : (s.afterFetch).laDec = s.laDec := rfl
@[simp] theorem State.afterFetch_flt : (s.afterFetch).flt = s.flt := rfl
@[simp] theorem State.afterFetch_outPin : (s.afterFetch).outPin = s.outPin := rfl
@[simp] theorem State.afterFetch_tc : (s.afterFetch).tc = s.tc := rfl
@[simp] theorem State.afterFetch_timed : (s.afterFetch).timed = s.timed := rfl
@[simp] theorem State.afterFetch_alarmWr : (s.afterFetch).alarmWr = s.alarmWr := rfl
@[simp] theorem State.afterFetch_draws : (s.afterFetch).draws = s.draws + 1 := rfl
@[simp] theorem State.afterFetch_trace : (s.afterFetch).trace = s.trace.tail := rfl

/-! ### powerOn -/

@[simp] theorem State.powerOn_ms : s.powerOn.ms = 10#4 := rfl
@[simp] theorem State.powerOn_is : s.powerOn.is = 0#3 := rfl
@[simp] theorem State.powerOn_pt : s.powerOn.pt = 0#32 := rfl
@[simp] theorem State.powerOn_tm : s.powerOn.tm = ⟨0#32, false⟩ := rfl
@[simp] theorem State.powerOn_ti : s.powerOn.ti = ⟨0#32, false⟩ := rfl
@[simp] theorem State.powerOn_ip : s.powerOn.ip = 0 := rfl
@[simp] theorem State.powerOn_im : s.powerOn.im = false := rfl
@[simp] theorem State.powerOn_csi : s.powerOn.csi = false := rfl
@[simp] theorem State.powerOn_en : s.powerOn.en = false := rfl
@[simp] theorem State.powerOn_ar : s.powerOn.ar = ⟨false, false⟩ := rfl
@[simp] theorem State.powerOn_av : s.powerOn.av = ⟨0#32, false⟩ := rfl
@[simp] theorem State.powerOn_out : s.powerOn.out = false := rfl
@[simp] theorem State.powerOn_per : s.powerOn.per = 500#16 := rfl
@[simp] theorem State.powerOn_lvInc : s.powerOn.lvInc = false := rfl
@[simp] theorem State.powerOn_laInc : s.powerOn.laInc = ⟨0#32, false⟩ := rfl
@[simp] theorem State.powerOn_lvDec : s.powerOn.lvDec = false := rfl
@[simp] theorem State.powerOn_laDec : s.powerOn.laDec = ⟨0#32, false⟩ := rfl
@[simp] theorem State.powerOn_flt : s.powerOn.flt = 0#3 := rfl
@[simp] theorem State.powerOn_outPin : s.powerOn.outPin = ⟨false, false⟩ := rfl
@[simp] theorem State.powerOn_tc : s.powerOn.tc = 0 := rfl
@[simp] theorem State.powerOn_timed : s.powerOn.timed = s.timed := rfl
@[simp] theorem State.powerOn_alarmWr : s.powerOn.alarmWr = s.alarmWr := rfl
@[simp] theorem State.powerOn_draws : s.powerOn.draws = s.draws := rfl
@[simp] theorem State.powerOn_trace : s.powerOn.trace = s.trace := rfl

/-! ### reset -/

@[simp] theorem State.reset_ms : State.reset.ms = 10#4 := rfl
@[simp] theorem State.reset_is : State.reset.is = 0#3 := rfl
@[simp] theorem State.reset_pt : State.reset.pt = 0#32 := rfl
@[simp] theorem State.reset_tm : State.reset.tm = ⟨0#32, false⟩ := rfl
@[simp] theorem State.reset_ti : State.reset.ti = ⟨0#32, false⟩ := rfl
@[simp] theorem State.reset_ip : State.reset.ip = 0 := rfl
@[simp] theorem State.reset_im : State.reset.im = false := rfl
@[simp] theorem State.reset_csi : State.reset.csi = false := rfl
@[simp] theorem State.reset_en : State.reset.en = false := rfl
@[simp] theorem State.reset_ar : State.reset.ar = ⟨false, false⟩ := rfl
@[simp] theorem State.reset_av : State.reset.av = ⟨0#32, false⟩ := rfl
@[simp] theorem State.reset_out : State.reset.out = false := rfl
@[simp] theorem State.reset_per : State.reset.per = 500#16 := rfl
@[simp] theorem State.reset_lvInc : State.reset.lvInc = false := rfl
@[simp] theorem State.reset_laInc : State.reset.laInc = ⟨0#32, false⟩ := rfl
@[simp] theorem State.reset_lvDec : State.reset.lvDec = false := rfl
@[simp] theorem State.reset_laDec : State.reset.laDec = ⟨0#32, false⟩ := rfl
@[simp] theorem State.reset_flt : State.reset.flt = 0#3 := rfl
@[simp] theorem State.reset_outPin : State.reset.outPin = ⟨false, false⟩ := rfl
@[simp] theorem State.reset_tc : State.reset.tc = 0 := rfl
@[simp] theorem State.reset_timed : State.reset.timed = false := rfl
@[simp] theorem State.reset_alarmWr : State.reset.alarmWr = 0 := rfl
@[simp] theorem State.reset_draws : State.reset.draws = 0 := rfl
@[simp] theorem State.reset_trace : State.reset.trace = [] := rfl

/-! ### resetWith -/

@[simp] theorem State.resetWith_ms (timed : Bool) : (State.resetWith timed).ms = 10#4 := rfl
@[simp] theorem State.resetWith_is (timed : Bool) : (State.resetWith timed).is = 0#3 := rfl
@[simp] theorem State.resetWith_pt (timed : Bool) : (State.resetWith timed).pt = 0#32 := rfl
@[simp] theorem State.resetWith_tm (timed : Bool) : (State.resetWith timed).tm = ⟨0#32, false⟩ := rfl
@[simp] theorem State.resetWith_ti (timed : Bool) : (State.resetWith timed).ti = ⟨0#32, false⟩ := rfl
@[simp] theorem State.resetWith_ip (timed : Bool) : (State.resetWith timed).ip = 0 := rfl
@[simp] theorem State.resetWith_im (timed : Bool) : (State.resetWith timed).im = false := rfl
@[simp] theorem State.resetWith_csi (timed : Bool) : (State.resetWith timed).csi = false := rfl
@[simp] theorem State.resetWith_en (timed : Bool) : (State.resetWith timed).en = false := rfl
@[simp] theorem State.resetWith_ar (timed : Bool) : (State.resetWith timed).ar = ⟨false, false⟩ := rfl
@[simp] theorem State.resetWith_av (timed : Bool) : (State.resetWith timed).av = ⟨0#32, false⟩ := rfl
@[simp] theorem State.resetWith_out (timed : Bool) : (State.resetWith timed).out = false := rfl
@[simp] theorem State.resetWith_per (timed : Bool) : (State.resetWith timed).per = 500#16 := rfl
@[simp] theorem State.resetWith_lvInc (timed : Bool) : (State.resetWith timed).lvInc = false := rfl
@[simp] theorem State.resetWith_laInc (timed : Bool) : (State.resetWith timed).laInc = ⟨0#32, false⟩ := rfl
@[simp] theorem State.resetWith_lvDec (timed : Bool) : (State.resetWith timed).lvDec = false := rfl
@[simp] theorem State.resetWith_laDec (timed : Bool) : (State.resetWith timed).laDec = ⟨0#32, false⟩ := rfl
@[simp] theorem State.resetWith_flt (timed : Bool) : (State.resetWith timed).flt = 0#3 := rfl
@[simp] theorem State.resetWith_outPin (timed : Bool) : (State.resetWith timed).outPin = ⟨false, false⟩ := rfl
@[simp] theorem State.resetWith_tc (timed : Bool) : (State.resetWith timed).tc = 0 := rfl
@[simp] theorem State.resetWith_timed (timed : Bool) : (State.resetWith timed).timed = timed := rfl
@[simp] theorem State.resetWith_alarmWr (timed : Bool) : (State.resetWith timed).alarmWr = 0 := rfl
@[simp] theorem State.resetWith_draws (timed : Bool) : (State.resetWith timed).draws = 0 := rfl
@[simp] theorem State.resetWith_trace (timed : Bool) : (State.resetWith timed).trace = [] := rfl

/-! ### Registers that may hold no value yet -/

@[simp] theorem Held.read_written {α : Type} (v free : α) : (⟨v, true⟩ : Held α).read free = v := rfl

@[simp] theorem Held.read_unwritten {α : Type} (v free : α) : (⟨v, false⟩ : Held α).read free = free := rfl

theorem Held.read_of_written {α : Type} {h : Held α} (hw : h.written = true) (free : α) : h.read free = h.value := by
  simp [Held.read, hw]

theorem State.readTm_of_written (h : s.tm.written = true) : s.readTm = s.tm.value := Held.read_of_written h _

theorem State.readTi_of_written (h : s.ti.written = true) : s.readTi = s.ti.value := Held.read_of_written h _

theorem State.readAv_of_written (h : s.av.written = true) : s.readAv = s.av.value := Held.read_of_written h _

theorem State.readAr_of_written (h : s.ar.written = true) : s.readAr = s.ar.value := Held.read_of_written h _

theorem State.readLaInc_of_written (h : s.laInc.written = true) : s.readLaInc = s.laInc.value :=
  Held.read_of_written h _

theorem State.readLaDec_of_written (h : s.laDec.written = true) : s.readLaDec = s.laDec.value :=
  Held.read_of_written h _

end Sys2Proof.Machine
end

