-- ==== Sys2Proof/Laws/Ops.lean ====
section
/-! SUPPORT. What each shared operation can do, said once: enabling, the shared cell, taking a fault, interrupt entry and
return, the timer, the acceptance test and the two clamped steps. -/

namespace Sys2Proof.Machine

open Sys2Proof

variable {s t : State}

/-! ### Enabling -/

/-- All that a guarded micro-operation can do: it is enabled and its next state is the one given, or it is refused. -/
theorem whenEnabled_next {p : Prop} [Decidable p] {u : State} : whenEnabled p u = .next t ↔ p ∧ u = t := by
  unfold whenEnabled
  split <;> simp_all

theorem whenEnabled_refused {p : Prop} [Decidable p] {u : State} {r : Refusal} :
    whenEnabled p u = .refused r ↔ ¬p ∧ r = .notEnabled := by
  unfold whenEnabled
  split <;> simp_all [eq_comm]

theorem whenEnabled_never_fault {p : Prop} [Decidable p] {u : State} {e : Fault} : whenEnabled p u ≠ .fault e := by
  unfold whenEnabled
  split <;> simp

theorem whenEnabled_of {p : Prop} [Decidable p] {u : State} (h : p) : whenEnabled p u = .next u := by
  simp [whenEnabled, h]

theorem whenEnabled_of_not {p : Prop} [Decidable p] {u : State} (h : ¬p) : whenEnabled p u = .refused .notEnabled := by
  simp [whenEnabled, h]

/-! ### The shared cell -/

@[simp] theorem memRead_ptAddr (s : State) : memRead .ptAddr s = s.pt := rfl

/-- A read after a write of the cell gives the value written. -/
@[simp] theorem memRead_memWrite (a b : SharedAddr) (v : Count) (s : State) : memRead a (memWrite b v s) = v := by
  cases a; cases b; rfl

/-- All that a write of the cell does: the cell, and nothing else. -/
@[simp] theorem memWrite_ptAddr (v : Count) (s : State) : memWrite .ptAddr v s = { s with pt := v } := rfl

/-- The address space has one cell, so equal cells are equal memories. -/
theorem memRead_ext (h : s.pt = t.pt) (a : SharedAddr) : memRead a s = memRead a t := by
  cases a; exact h

/-! ### Faults and the interrupt -/

/-- All that `raise` does. -/
theorem State.raise_eq (s : State) (c : FaultCause) : s.raise c = { s with flt := c.code, ms := 15#4 } := rfl

theorem FaultCause.code_ne_zero (c : FaultCause) : c.code ≠ 0#3 := by cases c <;> decide

theorem FaultCause.code_injective {c d : FaultCause} (h : c.code = d.code) : c = d := by
  revert h; cases c <;> cases d <;> decide

/-- All that interrupt entry does. -/
theorem State.enterInterrupt_eq (s : State) : s.enterInterrupt = { s with ip := s.ip - 1, is := 1#3 } := rfl

/-- All that interrupt return does. -/
theorem State.leaveInterrupt_eq (s : State) : s.leaveInterrupt = { s with is := 0#3 } := rfl

/-- All that one more alarm does. -/
theorem State.ring_eq (s : State) : s.ring = { s with ip := s.ip + 1 } := rfl

/-! ### The timer -/

theorem nextCount_lt (width tc : Nat) : nextCount width tc < 2 ^ width := Nat.mod_lt _ (Nat.two_pow_pos width)

theorem reloadCount_lt {width c : Nat} (b : Bool) (h : c < 2 ^ width) : reloadCount b c < 2 ^ width := by
  unfold reloadCount
  split
  · exact Nat.two_pow_pos width
  · exact h

/-- All that a timer tick can do: it fires and reloads, or it counts. -/
theorem timerTick_cases (cmp : AlarmCompare) (width av : Nat) (autoReload : Bool) (tc : Nat) :
    (alarmFires cmp (nextCount width tc) av = true ∧
      timerTick cmp width av autoReload tc = (true, reloadCount autoReload (nextCount width tc))) ∨
    (alarmFires cmp (nextCount width tc) av = false ∧
      timerTick cmp width av autoReload tc = (false, nextCount width tc)) := by
  unfold timerTick
  split <;> simp_all

/-- The count after a tick fits the width again. -/
theorem timerTick_lt (cmp : AlarmCompare) (width av : Nat) (autoReload : Bool) (tc : Nat) :
    (timerTick cmp width av autoReload tc).2 < 2 ^ width := by
  rcases timerTick_cases cmp width av autoReload tc with ⟨_, h⟩ | ⟨_, h⟩
  · rw [h]; exact reloadCount_lt _ (nextCount_lt _ _)
  · rw [h]; exact nextCount_lt _ _

/-- The count after `SET_ALARM` is 0 or what it was. -/
theorem countAfterSetAlarm_cases (resets : Bool) (tc : Nat) :
    countAfterSetAlarm resets tc = if resets then 0 else tc := by
  cases tc <;> simp [countAfterSetAlarm]

@[simp] theorem countAfterSetAlarm_zero (resets : Bool) : countAfterSetAlarm resets 0 = 0 := rfl

/-! ### The acceptance test and the period -/

theorem accepts_iff (p : Params) (lv : Bool) (la : Millis) (lvl : Bool) (now : Millis) :
    accepts p lv la lvl now = true ↔ lvl = false ∧ (lv = true → p.windowMs < elapsed p now la) := by
  cases lvl <;> cases lv <;> simp [accepts, pressed]

/-- What the Increase step can do to the state: nothing, or the latch and the period. -/
theorem State.pressInc_cases (s : State) (lvl : Bool) (now : Millis) :
    s.pressInc lvl now = s ∨
      s.pressInc lvl now = (s.latchInc now).setPer (toPeriod (shorten Config.params s.per.toNat)) := by
  unfold State.pressInc
  split <;> simp

/-- What the Decrease step can do to the state: nothing, or the latch and the period. -/
theorem State.pressDec_cases (s : State) (lvl : Bool) (now : Millis) :
    s.pressDec lvl now = s ∨
      s.pressDec lvl now = (s.latchDec now).setPer (toPeriod (lengthen Config.params s.per.toNat)) := by
  unfold State.pressDec
  split <;> simp

theorem toPeriod_toNat {n : Nat} (h : n < 65536) : (toPeriod n).toNat = n := by
  simp [toPeriod, Nat.mod_eq_of_lt h]

end Sys2Proof.Machine
end

