-- ==== Sys2Proof/Laws/PerInstr.lean ====
section
/-! SUPPORT. Statements made per instruction: one lemma for each constructor of Instr. -/

namespace Sys2Proof.Laws.StepCodePlaced

open Sys2Proof

/-- The word of an instruction carries its agent in `aa` and its step code in `aa ++ op` (R80, R81). -/
def Statement (i : Instr) : Prop :=
  aaField (encode i) = i.agent.bits ∧ aaField (encode i) ++ opField (encode i) = i.stepCode

/-- The two parts of a step code put together again. -/
theorem split_code (c : StepCode) : c.extractLsb' 4 2 ++ c.extractLsb' 0 4 = c := by
  revert c; decide

/-- The upper bits of a step code are its agent's (R80). -/
theorem code_agent {i : Instr} : i.stepCode.extractLsb' 4 2 = i.agent.bits := by
  cases i <;> (simp only [Instr.stepCode, Instr.agent, Agent.bits]; decide)

/-- What the statement needs of one instruction: its word is assembled from its step code. -/
theorem of_assemble {i : Instr} {lvl ok : Bool} {now : Millis}
    (h : encode i = assemble i.stepCode lvl ok now) : Statement i := by
  refine ⟨?_, ?_⟩
  · rw [h, aaField_assemble, code_agent]
  · rw [h, aaField_assemble, opField_assemble, split_code]

theorem poll : Statement .poll := of_assemble rfl

theorem csEnter : Statement .csEnter := of_assemble rfl

theorem load : Statement .load := of_assemble rfl

theorem dec : Statement .dec := of_assemble rfl

theorem store : Statement .store := of_assemble rfl

theorem csExit : Statement .csExit := of_assemble rfl

theorem toggle : Statement .toggle := of_assemble rfl

theorem dbInc (lvl : Bool) (now : Millis) : Statement (.dbInc lvl now) := of_assemble rfl

theorem dbDec (lvl : Bool) (now : Millis) : Statement (.dbDec lvl now) := of_assemble rfl

theorem setAlarm : Statement .setAlarm := of_assemble rfl

theorem initTmr (ok : Bool) : Statement (.initTmr ok) := of_assemble rfl

theorem initAlarm : Statement .initAlarm := of_assemble rfl

theorem initEn : Statement .initEn := of_assemble rfl

theorem halt : Statement .halt := of_assemble rfl

theorem iEnter : Statement .iEnter := of_assemble rfl

theorem iCsEnter : Statement .iCsEnter := of_assemble rfl

theorem iLoad : Statement .iLoad := of_assemble rfl

theorem iInc : Statement .iInc := of_assemble rfl

theorem iStore : Statement .iStore := of_assemble rfl

theorem iCsExit : Statement .iCsExit := of_assemble rfl

theorem iRet : Statement .iRet := of_assemble rfl

theorem alarm : Statement .alarm := of_assemble rfl

theorem ustep : Statement .ustep := of_assemble rfl

theorem reset : Statement .reset := of_assemble rfl

end Sys2Proof.Laws.StepCodePlaced
end

