-- ==== Sys2Proof/Laws/Sequencer.lean ====
section
/-! SUPPORT. What a turn and a step can do, said once. -/

namespace Sys2Proof.Machine

open Sys2Proof

variable {s t : State}

/-- A word has a next state only by the instruction it decodes to. -/
theorem runWord_next {w : TraceWord} (h : runWord w s = .next t) : ∃ i, decode w = .ok i ∧ exec i s = .next t := by
  unfold runWord at h
  cases hd : decode w with
  | ok i => simp only [hd] at h; exact ⟨i, rfl, h⟩
  | error e => simp [hd] at h

/-- A step of the MAIN sequencer has a next state only in an unfaulted unit in main context, by the micro-operation that
`MS` names, or by `ILLEGAL_STATE` where it names none. -/
theorem stepMain_next {lvl ok : Bool} {now : Millis} (h : stepMain lvl ok now s = .next t) :
    s.flt = 0#3 ∧ s.ms ≠ 15#4 ∧ s.is = 0#3 ∧
      ((∃ i, mainInstr s.ms lvl ok now = some i ∧ exec i s = .next t) ∨
        (mainInstr s.ms lvl ok now = none ∧ t = s.raise .illegalState)) := by
  unfold stepMain at h
  split at h
  · simp at h
  · rename_i h1
    split at h
    · simp at h
    · rename_i h2
      have h3 : s.flt = 0#3 ∧ s.ms ≠ 15#4 := by simpa [not_or] using h1
      refine ⟨h3.1, h3.2, by simpa using h2, ?_⟩
      cases hm : mainInstr s.ms lvl ok now with
      | some i => simp only [hm] at h; exact .inl ⟨i, rfl, h⟩
      | none => simp only [hm, Host.Outcome.next.injEq] at h; exact .inr ⟨rfl, h.symm⟩

/-- The same for the ISR sequencer. -/
theorem stepIsr_next (h : stepIsr s = .next t) :
    s.flt = 0#3 ∧
      ((∃ i, isrInstr s.is = some i ∧ exec i s = .next t) ∨
        (isrInstr s.is = none ∧ t = s.raise .illegalState)) := by
  unfold stepIsr at h
  split at h
  · simp at h
  · rename_i h1
    refine ⟨by simpa using h1, ?_⟩
    cases hm : isrInstr s.is with
    | some i => simp only [hm] at h; exact .inl ⟨i, rfl, h⟩
    | none => simp only [hm, Host.Outcome.next.injEq] at h; exact .inr ⟨rfl, h.symm⟩

/-- The MAIN sequencer names no micro-operation only at the reserved values 13, 14 and at `HALT`. -/
theorem mainInstr_none {ms : MainCode} {lvl ok : Bool} {now : Millis} (h : mainInstr ms lvl ok now = none) :
    ms = 13#4 ∨ ms = 14#4 ∨ ms = 15#4 := by
  revert h
  have : ms.toNat < 16 := ms.isLt
  unfold mainInstr
  split <;> simp_all [BitVec.toNat_eq]
  omega

/-- The ISR sequencer names no micro-operation only at the reserved value 7. -/
theorem isrInstr_none {is : IsrCode} (h : isrInstr is = none) : is = 7#3 := by
  revert h
  have : is.toNat < 8 := is.isLt
  unfold isrInstr
  split <;> simp_all [BitVec.toNat_eq]
  omega

/-- What a turn with a next state did: it ran one instruction, or a sequencer at a reserved value raised. -/
theorem runTurn_next {u : Turn} (h : runTurn u s = .next t) :
    (∃ i, exec i s = .next t) ∨
      (s.flt = 0#3 ∧ t = s.raise .illegalState ∧ (s.ms = 13#4 ∨ s.ms = 14#4 ∨ s.is = 7#3)) := by
  cases u with
  | word w =>
    obtain ⟨i, -, hi⟩ := runWord_next h
    exact .inl ⟨i, hi⟩
  | main lvl ok now =>
    obtain ⟨h1, h2, -, ⟨i, -, hi⟩ | ⟨hn, ht⟩⟩ := stepMain_next h
    · exact .inl ⟨i, hi⟩
    · rcases mainInstr_none hn with h3 | h3 | h3
      · exact .inr ⟨h1, ht, .inl h3⟩
      · exact .inr ⟨h1, ht, .inr (.inl h3)⟩
      · exact absurd h3 h2
  | isr =>
    obtain ⟨h1, ⟨i, -, hi⟩ | ⟨hn, ht⟩⟩ := stepIsr_next h
    · exact .inl ⟨i, hi⟩
    · exact .inr ⟨h1, ht, .inr (.inr (isrInstr_none hn))⟩

/-- What a step with a next state did, in the state that fetching left. -/
theorem step_next (h : step s = .next t) :
    (∃ i, exec i s.afterFetch = .next t) ∨
      (s.flt = 0#3 ∧ t = s.afterFetch.raise .illegalState ∧ (s.ms = 13#4 ∨ s.ms = 14#4 ∨ s.is = 7#3)) :=
  runTurn_next h

end Sys2Proof.Machine
end

