-- ==== Sys2Proof/Tests/Slice0.lean ====
section
/-! SUPPORT. The model's own tests: ill-formed terms refused, every row of the opcode table decoded from a word written out
from R86 to R88, single steps after the vectors of spec file 95 (named in each comment), and for every statement with
hypotheses a state and operands that meet them. -/

namespace Sys2Proof.Tests

open Sys2Proof Sys2Proof.Machine

/-! ### Helpers -/

/-- The outcome is a next state for which `p` holds. -/
def answers (r : Result) (p : State → Bool) : Bool :=
  match r with
  | .next t => p t
  | .fault _ => false
  | .refused _ => false

/-- The loop at `POLL` after startup, nothing pending (R223). -/
def idle : State := { State.reset with ms := 0#4, en := true, av := ⟨500000#32, true⟩, ar := ⟨true, true⟩ }

/-- `idle` with MAIN at `m` and a counter value. -/
def atMain (m : MainCode) (pt tm : Count) : State := { idle with ms := m, pt := pt, tm := ⟨tm, true⟩ }

/-- `idle` with MAIN at `m` inside its section. -/
def inMainSection (m : MainCode) (pt tm : Count) : State := { atMain m pt tm with im := true }

/-- `idle` with the ISR at `c` inside its section. -/
def inIsrSection (c : IsrCode) (pt ti : Count) : State := { idle with is := c, csi := true, pt := pt, ti := ⟨ti, true⟩ }

/-- `idle` with `n` alarms pending. -/
def pending (n : Nat) (pt : Count) : State := { idle with ip := n, pt := pt }

/-- The loop at `DB_INC`, with the last press at `la`. -/
def atDbInc (per : Period) (lv : Bool) (la : Millis) : State :=
  { idle with ms := 7#4, per := per, lvInc := lv, laInc := ⟨la, lv⟩ }

/-- The loop at `DB_DEC`, with the last press at `la`. -/
def atDbDec (per : Period) (lv : Bool) (la : Millis) : State :=
  { idle with ms := 8#4, per := per, lvDec := lv, laDec := ⟨la, lv⟩ }

/-- A state of a run from reset: the words placed and stepped one by one, a word without a next state skipped. -/
def run (ws : List Instr) : State :=
  ws.foldl (fun s i => match step { s with trace := [.word (encode i)] } with
    | .next t => t
    | .fault _ => s
    | .refused _ => s) State.reset

theorem run_reachable (ws : List Instr) : Reachable (run ws) := by
  suffices h : ∀ s, Reachable s → Reachable (ws.foldl (fun s i => match step { s with trace := [.word (encode i)] } with
      | .next t => t
      | .fault _ => s
      | .refused _ => s) s) from h _ (.reset false)
  induction ws with
  | nil => exact fun _ h => h
  | cons i ws ih =>
    intro s h
    apply ih
    show Reachable (match step { s with trace := [.word (encode i)] } with
      | .next t => t
      | .fault _ => s
      | .refused _ => s)
    split
    · exact .step _ _ (.place s _ h) ‹_›
    · exact h
    · exact h

/-- `idle` in the timed refinement. -/
def timedIdle : State := { idle with timed := true }

/-- The words of startup (R92 `BOOT ok=1`). -/
def boot : List Instr := Pseudo.expand (.boot true)

/-- Startup and one complete tick (R92 `TICK`). -/
def tickServed : List Instr := boot ++ Pseudo.expand .tick

/-- One counted step, skipped where it has no next state. -/
def countOne (q : Ledger × State) (i : Instr) : Ledger × State :=
  match exec i { q.2 with draws := 0 } with
  | .next t => (q.1.after i { q.2 with draws := 0 }, t)
  | .fault _ => q
  | .refused _ => q

/-- A counted run from reset. -/
def counted (is : List Instr) : Ledger × State := is.foldl countOne (⟨0, 0, 0⟩, State.reset)

theorem counted_run (is : List Instr) : CountedRun (counted is).1 (counted is).2 := by
  suffices h : ∀ q : Ledger × State, CountedRun q.1 q.2 →
      CountedRun (is.foldl countOne q).1 (is.foldl countOne q).2 from h _ (.reset false)
  induction is with
  | nil => exact fun _ h => h
  | cons i is ih =>
    intro q h
    apply ih
    unfold countOne
    split
    · exact .op q.1 q.2 _ i 0 h ‹_›
    · exact h
    · exact h

/-! ### WellFormed refuses (R7, one set of parameters for each conjunct; R81 for an instruction) -/

theorem test_params_wellFormed : Config.params.WellFormed := by decide
theorem test_step_zero_refused : ¬Params.WellFormed { stepMs := 0 } := by decide
theorem test_default_below_floor_refused : ¬Params.WellFormed { floorMs := 501 } := by decide
theorem test_default_above_ceiling_refused : ¬Params.WellFormed { ceilMs := 499 } := by decide
theorem test_period_too_wide_refused : ¬Params.WellFormed { perWidth := 11 } := by decide
theorem test_alarm_too_wide_refused : ¬Params.WellFormed { avWidth := 20 } := by decide
theorem test_window_too_wide_refused : ¬Params.WellFormed { windowMs := 256, clkWidth := 8 } := by decide
theorem test_tick_unit_refused : ¬Params.WellFormed { tickUnitUs := 2 } := by decide
theorem test_us_per_ms_refused : ¬Params.WellFormed { usPerMs := 1024 } := by decide
theorem test_wide_clock_operand_refused :
    (Instr.dbInc false 0x10000#32).wellFormed { clkWidth := 16 } = false ∧
    (Instr.dbDec true 0x10000#32).wellFormed { clkWidth := 16 } = false ∧
    (Instr.dbInc false 0xFFFF#32).wellFormed { clkWidth := 16 } = true := by decide

/-! ### Decoding: `aa`, `op`, `lvl`, `ok` and `now` written out from R86 to R88 -/

theorem test_decode_poll : decode 0b0000000000000000000000000000000000000000#40 = .ok .poll := by decide
theorem test_decode_csEnter : decode 0b0000010000000000000000000000000000000000#40 = .ok .csEnter := by decide
theorem test_decode_load : decode 0b0000100000000000000000000000000000000000#40 = .ok .load := by decide
theorem test_decode_dec : decode 0b0000110000000000000000000000000000000000#40 = .ok .dec := by decide
theorem test_decode_store : decode 0b0001000000000000000000000000000000000000#40 = .ok .store := by decide
theorem test_decode_csExit : decode 0b0001010000000000000000000000000000000000#40 = .ok .csExit := by decide
theorem test_decode_toggle : decode 0b0001100000000000000000000000000000000000#40 = .ok .toggle := by decide
theorem test_decode_dbInc_pressed :
    decode 0b0001110000000000000000000000001111101000#40 = .ok (.dbInc false 1000#32) := by decide
theorem test_decode_dbInc_released :
    decode 0b0001111000000000000000000001001110001000#40 = .ok (.dbInc true 5000#32) := by decide
theorem test_decode_dbDec_pressed :
    decode 0b0010000011111111111111111111111111111111#40 = .ok (.dbDec false 4294967295#32) := by decide
theorem test_decode_dbDec_released :
    decode 0b0010001000000000000000000000001111101000#40 = .ok (.dbDec true 1000#32) := by decide
theorem test_decode_setAlarm : decode 0b0010010000000000000000000000000000000000#40 = .ok .setAlarm := by decide
theorem test_decode_initTmr_up : decode 0b0010100100000000000000000000000000000000#40 = .ok (.initTmr true) := by decide
theorem test_decode_initTmr_down : decode 0b0010100000000000000000000000000000000000#40 = .ok (.initTmr false) := by decide
theorem test_decode_initAlarm : decode 0b0010110000000000000000000000000000000000#40 = .ok .initAlarm := by decide
theorem test_decode_initEn : decode 0b0011000000000000000000000000000000000000#40 = .ok .initEn := by decide
theorem test_decode_halt : decode 0b0011110000000000000000000000000000000000#40 = .ok .halt := by decide
theorem test_decode_iEnter : decode 0b0100000000000000000000000000000000000000#40 = .ok .iEnter := by decide
theorem test_decode_iCsEnter : decode 0b0100010000000000000000000000000000000000#40 = .ok .iCsEnter := by decide
theorem test_decode_iLoad : decode 0b0100100000000000000000000000000000000000#40 = .ok .iLoad := by decide
theorem test_decode_iInc : decode 0b0100110000000000000000000000000000000000#40 = .ok .iInc := by decide
theorem test_decode_iStore : decode 0b0101000000000000000000000000000000000000#40 = .ok .iStore := by decide
theorem test_decode_iCsExit : decode 0b0101010000000000000000000000000000000000#40 = .ok .iCsExit := by decide
theorem test_decode_iRet : decode 0b0101100000000000000000000000000000000000#40 = .ok .iRet := by decide
theorem test_decode_alarm : decode 0b1000000000000000000000000000000000000000#40 = .ok .alarm := by decide
theorem test_decode_ustep : decode 0b1000010000000000000000000000000000000000#40 = .ok .ustep := by decide
theorem test_decode_reset : decode 0b1011110000000000000000000000000000000000#40 = .ok .reset := by decide

/-- V9 to V15. -/
theorem test_decode_reserved :
    decode 0x0100000000#40 = .error .unusedFieldNotZero ∧ decode 0x0000000001#40 = .error .unusedFieldNotZero ∧
    decode 0x2A00000000#40 = .error .unusedFieldNotZero ∧ decode 0x3400000000#40 = .error .reservedMainOp ∧
    decode 0x5C00000000#40 = .error .reservedIsrOp ∧ decode 0xC000000000#40 = .error .reservedAgent ∧
    decode 0x8800000000#40 = .error .reservedEnvOp := by decide

/-- The edges of the reserved ranges of R89, and `DB_INC` with `ok` = 1. -/
theorem test_decode_reserved_edges :
    decode 0x3800000000#40 = .error .reservedMainOp ∧ decode 0x7C00000000#40 = .error .reservedIsrOp ∧
    decode 0xB800000000#40 = .error .reservedEnvOp ∧ decode 0x1D00000000#40 = .error .unusedFieldNotZero ∧
    decode 0xFFFFFFFFFF#40 = .error .reservedAgent := by decide

theorem test_encode_words :
    encode (.dbInc false 1000#32) = 0x1C000003E8#40 ∧ encode (.dbDec true 1000#32) = 0x22000003E8#40 ∧
    encode (.initTmr true) = 0x2900000000#40 ∧ encode .reset = 0xBC00000000#40 := by decide

theorem test_decodeTableWord :
    decodeTableWord 40 0x2400000000 = some .setAlarm ∧ decodeTableWord 40 0x3400000000 = none ∧
    decodeTableWord 48 0x10000000000 = none := by decide

/-- R91. -/
theorem test_text : (Instr.dbInc false 1000#32).text = "DB_INC lvl=0, now=1000" ∧
    (Instr.initTmr true).text = "INIT_TMR ok=1" ∧ Instr.text .iCsEnter = "I_CS_ENTER" := by decide

/-- R92: the lengths of the expansions, and `TICK` beginning with `ALARM`, `I_ENTER`. -/
theorem test_pseudo : boot.length = 3 ∧ (Pseudo.expand (.boot false)).length = 1 ∧
    (Pseudo.expand .tick).take 2 = [.alarm, .iEnter] ∧ (Pseudo.expand .tick).length = 8 ∧
    (Pseudo.expand (.consume false 0#32 true 0#32)).length = 10 := by decide

/-! ### Steps: the machine and the host's placing of a word -/

/-- Every row of the opcode table but `HALT` has a next state as the first instruction after reset. -/
theorem test_every_row_runs_first :
    ∀ r ∈ opcodeRows, r.mnemonic = "HALT" ∨
      answers (step (State.reset.withFetchWord 40 r.pattern.toNat)) (fun _ => true) = true := by decide

theorem test_first_step_of_boot :
    answers (step (State.reset.withFetchWord 40 0x2900000000)) (fun t => t.ms == 11#4 && t.trace == []) = true := by decide

theorem test_halt_word_refused : step (State.reset.withFetchWord 40 0x3C00000000) = .refused .haltNeverEnabled := by rfl

theorem test_reserved_word_refused :
    step (State.reset.withFetchWord 40 0xC000000000) = .refused (.reservedEncoding .reservedAgent) := by rfl

/-- V59c: MAIN at 13, and the ISR at 7, raise `ILLEGAL_STATE`. -/
theorem test_illegal_state :
    answers (runTurn (.main true true 0#32) (atMain 13#4 0#32 0#32)) (fun t => t.flt == 4#3 && t.ms == 15#4) = true ∧
    answers (runTurn .isr { idle with is := 7#3 }) (fun t => t.flt == 4#3 && t.ms == 15#4) = true := by decide

theorem test_halted_turns :
    runTurn (.main true true 0#32) { idle with flt := 2#3, ms := 15#4 } = .fault .halted ∧
    runTurn .isr { idle with flt := 2#3, ms := 15#4 } = .fault .halted := ⟨rfl, rfl⟩

/-! ### Steps: tick source (V16 to V19l) -/

theorem test_alarm_masked : answers (exec .alarm { inMainSection 3#4 1#32 1#32 with ip := 1 }) (fun t => t.ip == 2) = true := by decide
theorem test_alarm_disabled : exec .alarm State.reset = .refused .notEnabled := by rfl
/-- R102, R201: in the timed refinement `USTEP` replaces `ALARM`. -/
theorem test_alarm_not_used_in_timed : exec .alarm timedIdle = .refused .notEnabled := by rfl
theorem test_ustep_timed_only :
    exec .ustep idle = .refused .notEnabled ∧ answers (exec .ustep timedIdle) (fun _ => true) = true := ⟨rfl, rfl⟩
theorem test_initTmr_up : answers (exec (.initTmr true) { State.reset with tc := 7 }) (fun t => t.ms == 11#4 && t.tc == 0) = true := by decide
theorem test_initTmr_down :
    answers (exec (.initTmr false) State.reset) (fun t => t.flt == 1#3 && t.ms == 15#4 && !t.en) = true := by decide
theorem test_initAlarm :
    answers (exec .initAlarm { State.reset with ms := 11#4 })
      (fun t => t.av == ⟨500000#32, true⟩ && t.ar == ⟨true, true⟩ && t.ms == 12#4) = true := by decide
theorem test_initEn : answers (exec .initEn { State.reset with ms := 12#4 }) (fun t => t.en && t.ms == 0#4) = true := by decide
theorem test_setAlarm_longest :
    answers (exec .setAlarm { idle with ms := 9#4, per := 2000#16 }) (fun t => t.av == ⟨2000000#32, true⟩ && t.ms == 0#4) = true := by
  decide
theorem test_setAlarm_same_value_strobes :
    answers (exec .setAlarm { idle with ms := 9#4 }) (fun t => t.av == ⟨500000#32, true⟩ && t.alarmWr == 1) = true := by decide
/-- V19i to V19l. -/
theorem test_timerTick :
    timerTick .ge 64 500000 true 499998 = (false, 499999) ∧ timerTick .ge 64 500000 true 499999 = (true, 0) ∧
    timerTick .ge 64 450000 true 460000 = (true, 0) ∧ timerTick .eq 64 450000 true 460000 = (false, 460001) := by decide
/-- R102: the count wraps, and is not reloaded without auto-reload. -/
theorem test_timerTick_edges :
    timerTick .ge 4 9 true 15 = (false, 0) ∧ timerTick .ge 4 9 false 8 = (true, 9) := by decide

/-! ### Steps: ISR (V30 to V39) -/

theorem test_iEnter : answers (exec .iEnter (pending 2 0#32)) (fun t => t.ip == 1 && t.is == 1#3) = true := by decide
theorem test_iEnter_masked : exec .iEnter { inMainSection 3#4 1#32 1#32 with ip := 1 } = .refused .notEnabled := by rfl
theorem test_iCsEnter : answers (exec .iCsEnter { idle with is := 1#3 }) (fun t => t.csi && t.is == 2#3) = true := by decide
theorem test_iLoad :
    answers (exec .iLoad (inIsrSection 2#3 4#32 9#32)) (fun t => t.ti == ⟨4#32, true⟩ && t.is == 3#3) = true := by decide
theorem test_iInc_to_largest :
    answers (exec .iInc (inIsrSection 3#3 0#32 4294967294#32)) (fun t => t.ti == ⟨4294967295#32, true⟩ && t.is == 4#3) = true := by
  decide
theorem test_iInc_overflow :
    answers (exec .iInc (inIsrSection 3#3 4294967295#32 4294967295#32))
      (fun t => t.flt == 2#3 && t.ms == 15#4 && t.is == 3#3 && t.csi && t.ti == ⟨4294967295#32, true⟩) = true := by decide
theorem test_iStore :
    answers (exec .iStore (inIsrSection 4#3 4#32 5#32)) (fun t => t.pt == 5#32 && t.is == 5#3) = true := by decide
theorem test_iCsExit : answers (exec .iCsExit (inIsrSection 5#3 5#32 5#32)) (fun t => !t.csi && t.is == 6#3) = true := by decide
theorem test_iRet : answers (exec .iRet { idle with is := 6#3 }) (fun t => t.is == 0#3 && t.ms == 0#4) = true := by decide

/-! ### Steps: main loop (V50 to V59b) -/

theorem test_poll_idle : answers (exec .poll (atMain 0#4 0#32 9#32)) (fun t => t.tm == ⟨0#32, true⟩ && t.ms == 0#4) = true := by decide
theorem test_poll_backlog : answers (exec .poll (atMain 0#4 7#32 0#32)) (fun t => t.tm == ⟨7#32, true⟩ && t.ms == 1#4) = true := by
  decide
theorem test_poll_waits : exec .poll { idle with is := 2#3 } = .refused .notEnabled := by rfl
theorem test_csEnter : answers (exec .csEnter (atMain 1#4 1#32 1#32)) (fun t => t.im && t.ms == 2#4) = true := by decide
theorem test_load_rereads :
    answers (exec .load (inMainSection 2#4 3#32 1#32)) (fun t => t.tm == ⟨3#32, true⟩ && t.ms == 3#4) = true := by decide
theorem test_dec_to_zero :
    answers (exec .dec (inMainSection 3#4 1#32 1#32)) (fun t => t.tm == ⟨0#32, true⟩ && t.ms == 4#4) = true := by decide
theorem test_dec_underflow :
    answers (exec .dec (inMainSection 3#4 0#32 0#32))
      (fun t => t.flt == 3#3 && t.ms == 15#4 && t.im && t.tm == ⟨0#32, true⟩) = true := by decide
theorem test_store : answers (exec .store (inMainSection 4#4 3#32 2#32)) (fun t => t.pt == 2#32 && t.ms == 5#4) = true := by decide
theorem test_csExit : answers (exec .csExit (inMainSection 5#4 2#32 2#32)) (fun t => !t.im && t.ms == 6#4) = true := by decide
theorem test_toggle_on :
    answers (exec .toggle (atMain 6#4 0#32 0#32)) (fun t => t.out && t.outPin == ⟨true, true⟩ && t.ms == 7#4) = true := by decide
theorem test_toggle_off :
    answers (exec .toggle { atMain 6#4 0#32 0#32 with out := true }) (fun t => !t.out && t.outPin == ⟨false, true⟩) = true := by
  decide
theorem test_halt : exec .halt { idle with ms := 15#4, flt := 1#3 } = .refused .haltNeverEnabled := by rfl

/-! ### Steps: debounce (V20 to V29) -/

theorem test_dbInc_at_window : answers (exec (.dbInc false 200#32) (atDbInc 450#16 true 0#32)) (fun t => t.per == 450#16 && t.ms == 8#4) = true := by
  decide
theorem test_dbInc_past_window :
    answers (exec (.dbInc false 201#32) (atDbInc 450#16 true 0#32)) (fun t => t.per == 400#16 && t.laInc == ⟨201#32, true⟩) = true := by
  decide
theorem test_dbDec_at_ceiling :
    answers (exec (.dbDec false 1000#32) (atDbDec 2000#16 true 0#32))
      (fun t => t.per == 2000#16 && t.laDec == ⟨1000#32, true⟩ && t.ms == 9#4) = true := by decide
theorem test_dbDec_lengthens : answers (exec (.dbDec false 1250#32) (atDbDec 500#16 true 1000#32)) (fun t => t.per == 550#16) = true := by
  decide
/-- V20, V23b, V24, V24a, V24b, V25a, V25b. -/
theorem test_steps_of_the_period :
    shorten Config.params 500 = 450 ∧ shorten Config.params 100 = 100 ∧ shorten Config.params 150 = 100 ∧
    shorten Config.params 120 = 100 ∧ lengthen Config.params 1950 = 2000 ∧ lengthen Config.params 1975 = 2000 := by decide
/-- V20, V23a, V23b, V26, V26a, V26b, V26c, V26e. -/
theorem test_acceptance :
    accepts Config.params false 0#32 false 0#32 = true ∧ accepts Config.params true 0#32 true 5000#32 = false ∧
    accepts Config.params false 0#32 true 5000#32 = false ∧
    accepts Config.params true 0xFFFFFF9C#32 false 0x000000C8#32 = true ∧
    accepts Config.params true 0xFFFFFF9C#32 false 0x00000064#32 = false ∧
    accepts Config.params true 0xFFFFFF9C#32 false 0x00000065#32 = true ∧
    accepts Config.params true 1000#32 false 1100#32 = false ∧ accepts Config.params true 1000#32 false 900#32 = true := by decide

/-- R220, in a faulted state. -/
theorem test_reset :
    answers (exec .reset { idle with flt := 2#3, ms := 15#4, out := true, per := 100#16, pt := 4294967295#32 })
      (fun t => t.flt == 0#3 && t.ms == 10#4 && t.pt == 0#32 && t.per == 500#16 && !t.out && !t.en && !t.av.written) = true := by
  decide

/-! ### Witnesses: encoding -/

theorem witness_DecodeEncodeRoundTrip :
    (Instr.dbDec true 4294967295#32).wellFormed Config.params = true ∧
    (Instr.dbInc false 0#32).wellFormed Config.params = true := by decide

theorem witness_EncodeDecodeRoundTrip : decode 0x22FFFFFFFF#40 = .ok (.dbDec true 4294967295#32) := by decide

theorem witness_DecodeAcceptsExactlyTableRows :
    decode 0x1E00001388#40 = .ok (.dbInc true 5000#32) ∧
    ⟨"DB_INC", 0x1C00000000#40, 0xFD00000000#40⟩ ∈ opcodeRows ∧
    OpcodeRow.admits ⟨"DB_INC", 0x1C00000000#40, 0xFD00000000#40⟩ 0x1E00001388#40 = true := by decide

theorem witness_ReservedWordsRejectedByClass :
    aaField 0xFFFFFFFFFF#40 = 3#2 ∧
    (aaField 0x3400000000#40 = 0#2 ∧ opField 0x3400000000#40 = 13#4) ∧
    (aaField 0x3800000000#40 = 0#2 ∧ opField 0x3800000000#40 = 14#4) ∧
    (aaField 0x5C00000000#40 = 1#2 ∧ (opField 0x5C00000000#40).toNat = 7) ∧
    (aaField 0x7C00000000#40 = 1#2 ∧ (opField 0x7C00000000#40).toNat = 15) ∧
    (aaField 0x8800000000#40 = 2#2 ∧ (opField 0x8800000000#40).toNat = 2) ∧
    (aaField 0xB800000000#40 = 2#2 ∧ (opField 0xB800000000#40).toNat = 14) ∧
    (Instr.stepCode .poll = aaField 0x0000000001#40 ++ opField 0x0000000001#40 ∧ Instr.format .poll ≠ .mb ∧
      nowField 0x0000000001#40 ≠ 0#32) ∧
    (Instr.stepCode (.initTmr true) = aaField 0x2B00000000#40 ++ opField 0x2B00000000#40 ∧
      Instr.format (.initTmr true) ≠ .mb ∧ lvlField 0x2B00000000#40 = true) ∧
    (Instr.stepCode (.dbInc false 0#32) = aaField 0x1D00000000#40 ++ opField 0x1D00000000#40 ∧
      Instr.format (.dbInc false 0#32) ≠ .mk ∧ okField 0x1D00000000#40 = true) := by decide

/-! ### Witnesses: steps, turns and enabling -/

theorem witness_StepRunsDecodedWord :
    ({ idle with trace := [.word 0x1C000003E8#40] } : State).trace = .word 0x1C000003E8#40 :: [] ∧
    decode 0x1C000003E8#40 = .ok (.dbInc false 1000#32) ∧ decode 0x1D00000000#40 = .error .unusedFieldNotZero := by decide

theorem witness_SequencerTurnsRunNamedOperation :
    (idle.flt = 0#3 ∧ idle.is = 0#3 ∧ idle.ms = 0#4) ∧
    (({ idle with ms := 12#4 } : State).flt = 0#3 ∧ ({ idle with ms := 12#4 } : State).is = 0#3 ∧
      ({ idle with ms := 12#4 } : State).ms = 12#4) ∧
    (({ idle with is := 6#3 } : State).flt = 0#3 ∧ ({ idle with is := 6#3 } : State).is = 6#3) := by decide

theorem witness_ReservedSequencerCodesRaise :
    ((atMain 13#4 0#32 0#32).flt = 0#3 ∧ (atMain 13#4 0#32 0#32).is = 0#3 ∧ (atMain 13#4 0#32 0#32).ms = 13#4) ∧
    ((atMain 14#4 0#32 0#32).flt = 0#3 ∧ (atMain 14#4 0#32 0#32).is = 0#3 ∧ (atMain 14#4 0#32 0#32).ms = 14#4) ∧
    (({ idle with is := 7#3 } : State).flt = 0#3 ∧ ({ idle with is := 7#3 } : State).is = 7#3) ∧
    Reachable (run tickServed) := ⟨by decide, by decide, by decide, run_reachable _⟩

theorem witness_InstructionStepsExactlyWhenEnabled :
    Enabled .poll idle ∧ ¬Enabled .halt idle ∧ ¬Enabled .iEnter idle ∧ ¬Enabled .alarm State.reset :=
  ⟨⟨rfl, rfl, rfl⟩, id, fun h => absurd h.2.2.1 (by decide), fun h => absurd h.1 (by decide)⟩

/-- The three instructions that raise, and a faulted state. -/
theorem witness_RaisingHaltsUnit :
    answers (exec (.initTmr false) State.reset) (fun t => t.flt != State.reset.flt) = true ∧
    answers (exec .iInc (inIsrSection 3#3 4294967295#32 4294967295#32)) (fun t => t.flt != 0#3) = true ∧
    answers (exec .dec (inMainSection 3#4 0#32 0#32)) (fun t => t.flt != 0#3) = true ∧
    ({ idle with flt := 1#3, ms := 15#4 } : State).flt ≠ 0#3 := by decide

/-- For each clause an instruction that changes its item. -/
theorem witness_WritersOfEachItem :
    answers (exec .csEnter (atMain 1#4 1#32 1#32)) (fun t => t.ms != 1#4 && t.im != false) = true ∧
    answers (exec .iEnter (pending 1 0#32)) (fun t => t.is != 0#3 && t.ip != 1) = true ∧
    answers (exec .store (inMainSection 4#4 3#32 2#32)) (fun t => t.pt != 3#32) = true ∧
    answers (exec .load (inMainSection 2#4 3#32 1#32)) (fun t => t.tm != ⟨1#32, true⟩) = true ∧
    answers (exec .iLoad (inIsrSection 2#3 4#32 9#32)) (fun t => t.ti != ⟨9#32, true⟩) = true ∧
    answers (exec .iCsExit (inIsrSection 5#3 5#32 5#32)) (fun t => t.csi != true) = true ∧
    answers (exec .initEn { State.reset with ms := 12#4 }) (fun t => t.en != false) = true ∧
    answers (exec .setAlarm { idle with ms := 9#4 }) (fun t => t.alarmWr != 0) = true ∧
    answers (exec .toggle (atMain 6#4 0#32 0#32)) (fun t => t.out != false) = true ∧
    answers (exec (.dbInc false 0#32) (atDbInc 500#16 false 0#32)) (fun t => t.per != 500#16 && t.lvInc != false) = true ∧
    answers (exec (.dbDec false 0#32) (atDbDec 500#16 false 0#32)) (fun t => t.per != 500#16 && t.lvDec != false) = true ∧
    answers (exec (.initTmr false) State.reset) (fun t => t.flt != 0#3) = true ∧
    answers (exec (.initTmr true) { State.reset with tc := 7 }) (fun t => t.tc != 7) = true := by decide

theorem witness_IsrIgnoresMainRegisters :
    Instr.agent .iInc = .isr ∧ answers (exec .iInc (inIsrSection 3#3 4#32 4#32)) (fun _ => true) = true ∧
    answers (exec .iInc (inIsrSection 3#3 4294967295#32 4294967295#32)) (fun t => t.ms != 0#4) = true := by decide

/-- The invariants hold with MAIN at `DEC` inside its section. -/
theorem stateInvariants_dec : StateInvariants (inMainSection 3#4 3#32 3#32) := by constructor <;> decide

/-- The invariants hold with MAIN at `STORE` inside its section. -/
theorem stateInvariants_store : StateInvariants (inMainSection 4#4 3#32 2#32) := by constructor <;> decide

/-- The invariants hold with the ISR at `I_STORE` inside its section. -/
theorem stateInvariants_iStore : StateInvariants (inIsrSection 4#3 4#32 5#32) := by constructor <;> decide

/-- The invariants hold with MAIN at `CS_ENTER`. -/
theorem stateInvariants_csEnter : StateInvariants (atMain 1#4 1#32 1#32) := by constructor <;> decide

/-- The invariants hold with the ISR at `I_CS_ENTER`. -/
theorem stateInvariants_iCsEnter : StateInvariants { idle with is := 1#3 } := by constructor <;> decide

/-- The invariants hold with the ISR at `I_RET` and another alarm pending. -/
theorem stateInvariants_iRet : StateInvariants { pending 1 1#32 with is := 6#3 } := by constructor <;> decide

theorem inv_of_items {s : State} (h : StateInvariants s) (h1 : (s.ms = 1#4 ∨ s.ms = 2#4) → 1 ≤ s.pt.toNat)
    (h2 : ¬(s.ms = 10#4 ∨ s.ms = 11#4 ∨ s.ms = 12#4)) (h3 : s.en = true) (h4 : s.av = ⟨500000#32, true⟩)
    (h5 : s.ar = ⟨true, true⟩) (h6 : s.per = 500#16) (h7 : s.outPin.written = false) (h8 : s.tc = 0) : Inv s where
  items := h
  tick_seen := h1
  disabled_at_startup := fun h => absurd h h2
  enabled_after_startup := fun _ _ => h3
  alarm_is_period := fun _ _ => by simp [h4, h5, h6]
  period_default_at_startup := fun _ => h6
  alarm_written := fun _ => h5
  alarm_legal := fun _ => ⟨500, by decide, by decide, by decide, by simp [h4]⟩
  en_has_alarm := fun _ => by simp [h4]
  period_multiple := by rw [h6]; decide
  pin_follows := by simp [h7]
  count_in_width := by rw [h8]; exact Nat.two_pow_pos _
  untimed_has_no_count := fun _ => h8

/-- The whole invariant holds with MAIN at `STORE`. -/
theorem inv_store : Inv (inMainSection 4#4 3#32 2#32) :=
  inv_of_items stateInvariants_store (by decide) (by decide) rfl rfl rfl rfl rfl rfl

/-- The whole invariant holds with the ISR at `I_STORE`. -/
theorem inv_iStore : Inv (inIsrSection 4#3 4#32 5#32) :=
  inv_of_items stateInvariants_iStore (by decide) (by decide) rfl rfl rfl rfl rfl rfl

theorem witness_SectionsExcludeOtherAgent :
    (StateInvariants (inMainSection 3#4 3#32 3#32) ∧ (inMainSection 3#4 3#32 3#32).im = true) ∧
    (StateInvariants (inIsrSection 4#3 4#32 5#32) ∧ (inIsrSection 4#3 4#32 5#32).csi = true) ∧
    (StateInvariants (atMain 1#4 1#32 1#32) ∧ answers (exec .csEnter (atMain 1#4 1#32 1#32)) (fun _ => true) = true) :=
  ⟨⟨stateInvariants_dec, rfl⟩, ⟨stateInvariants_iStore, rfl⟩, ⟨stateInvariants_csEnter, by decide⟩⟩

theorem witness_MainWaitsWhileIsrRuns :
    (inIsrSection 4#3 4#32 5#32).is ≠ 0#3 ∧ (inIsrSection 4#3 4#32 5#32).flt = 0#3 ∧
    (inIsrSection 4#3 4#32 5#32).ms ≠ 15#4 ∧ Instr.agent .poll = .main := by decide

/-- A run of the timed refinement with a timer tick in it, and one of the untimed unit with an alarm. -/
theorem witness_TimedRunsAreUntimedRuns :
    execAll [.ustep, .poll] timedIdle = .next (timedIdle.tick.setTm timedIdle.tick.pt |>.setMs
      (if timedIdle.tick.pt = 0#32 then 0#4 else 1#4)) ∧ timedIdle.timed = true ∧
    answers (execAll [.alarm, .poll] idle) (fun t => t.ip == 1) = true ∧ idle.timed = false := by
  refine ⟨?_, rfl, by decide, rfl⟩
  have h : timedIdle.tick.flt = 0#3 ∧ timedIdle.tick.is = 0#3 ∧ timedIdle.tick.ms = 0#4 := by
    unfold State.tick
    split <;> exact ⟨rfl, rfl, rfl⟩
  show (match whenEnabled (timedIdle.tick.MainAt 0#4) _ with
    | .next t => Host.Outcome.next t
    | .fault r => .fault r
    | .refused r => .refused r) = _
  rw [Machine.whenEnabled_of h]
  rfl

theorem witness_SchedulerAlwaysSteps : State.reset.trace = [] ∧ (inIsrSection 3#3 0#32 0#32).trace = [] := by decide

theorem witness_TrueTimeNeverDecreases : (3 : Nat) ≤ 4 := by decide

/-! ### Witnesses: each instruction -/

theorem witness_PollReadsCounterAndBranches :
    (idle.flt = 0#3 ∧ idle.is = 0#3 ∧ idle.ms = 0#4) ∧ ¬Enabled .poll State.reset :=
  ⟨by decide, fun h => absurd h.2.2 (by decide)⟩

theorem witness_MainSectionSetsAndClearsMask :
    Enabled .csEnter (atMain 1#4 1#32 1#32) ∧ ¬Enabled .csEnter idle ∧ StateInvariants (atMain 1#4 1#32 1#32) ∧
    Enabled .csExit (inMainSection 5#4 2#32 2#32) ∧ ¬Enabled .csExit idle ∧
    answers (exec .csExit { inMainSection 5#4 2#32 2#32 with ip := 1 }) (fun t => t.ip == 1) = true ∧
    ((inMainSection 5#4 2#32 2#32).im = true ∧ (inMainSection 5#4 2#32 2#32).en = true ∧
      (inMainSection 5#4 2#32 2#32).flt = 0#3) :=
  ⟨⟨rfl, rfl, rfl⟩, fun h => absurd h.2.2 (by decide), stateInvariants_csEnter, ⟨rfl, rfl, rfl⟩,
    fun h => absurd h.2.2 (by decide), by decide, by decide⟩

theorem witness_LoadRereadsCounter :
    ¬Enabled .load idle ∧ Reachable (run (tickServed ++ [.poll, .csEnter])) ∧
    Enabled .load (run (tickServed ++ [.poll, .csEnter])) :=
  ⟨fun h => absurd h.2.2 (by decide), run_reachable _, by decide, by decide, by decide⟩

theorem witness_DecDecrementsOrRaises :
    ((inMainSection 3#4 1#32 1#32).ms = 3#4 ∧ (inMainSection 3#4 1#32 1#32).readTm ≠ 0#32 ∧
      (inMainSection 3#4 0#32 0#32).ms = 3#4 ∧ (inMainSection 3#4 0#32 0#32).readTm = 0#32 ∧
      (inMainSection 3#4 0#32 0#32).tm.written = true) ∧
    ¬Enabled .dec idle ∧ Reachable (run (tickServed ++ [.poll, .csEnter, .load])) ∧
    Enabled .dec (run (tickServed ++ [.poll, .csEnter, .load])) :=
  ⟨by decide, fun h => absurd h.2.2 (by decide), run_reachable _, by decide, by decide, by decide⟩

theorem witness_StoreWritesCounter :
    ¬Enabled .store idle ∧ Reachable (run (tickServed ++ [.poll, .csEnter, .load, .dec])) ∧
    Enabled .store (run (tickServed ++ [.poll, .csEnter, .load, .dec])) ∧
    (run (tickServed ++ [.poll, .csEnter, .load, .dec])).tm.written = true :=
  ⟨fun h => absurd h.2.2 (by decide), run_reachable _, ⟨by decide, by decide, by decide⟩, by decide⟩

theorem witness_ToggleInvertsOutputAndDrivesPin :
    Enabled .toggle (atMain 6#4 0#32 0#32) ∧ ¬Enabled .toggle idle ∧
    answers (exec .toggle (atMain 6#4 0#32 0#32)) (fun _ => true) = true :=
  ⟨⟨rfl, rfl, rfl⟩, fun h => absurd h.2.2 (by decide), by decide⟩

/-- Accepted at 201 ms and as a first press, rejected at 200 ms and released; the period at and below 150. -/
theorem witness_DbIncAcceptsAndShortens :
    ((atDbInc 149#16 true 0#32).flt = 0#3 ∧ (atDbInc 149#16 true 0#32).is = 0#3 ∧ (atDbInc 149#16 true 0#32).ms = 7#4 ∧
      200 < (201#32 - (atDbInc 149#16 true 0#32).readLaInc).toNat ∧ (atDbInc 150#16 false 0#32).lvInc = false ∧
      ¬(200 < (200#32 - (atDbInc 150#16 true 0#32).readLaInc).toNat) ∧ (atDbInc 150#16 true 0#32).lvInc = true ∧
      (atDbInc 150#16 true 0#32).laInc.written = true) ∧ ¬Enabled (.dbInc false 0#32) idle :=
  ⟨by decide, fun h => absurd h.2.2 (by decide)⟩

/-- The same for Decrease; the period at and above 1950. -/
theorem witness_DbDecAcceptsAndLengthens :
    ((atDbDec 1951#16 true 0#32).flt = 0#3 ∧ (atDbDec 1951#16 true 0#32).is = 0#3 ∧ (atDbDec 1951#16 true 0#32).ms = 8#4 ∧
      200 < (201#32 - (atDbDec 1951#16 true 0#32).readLaDec).toNat ∧ (atDbDec 1950#16 false 0#32).lvDec = false ∧
      ¬(200 < (200#32 - (atDbDec 1950#16 true 0#32).readLaDec).toNat) ∧ (atDbDec 1950#16 true 0#32).lvDec = true ∧
      (atDbDec 1950#16 true 0#32).laDec.written = true) ∧ ¬Enabled (.dbDec false 0#32) idle :=
  ⟨by decide, fun h => absurd h.2.2 (by decide)⟩

theorem witness_SetAlarmProgramsPeriod :
    Enabled .setAlarm { idle with ms := 9#4, per := 65535#16 } ∧ ¬Enabled .setAlarm idle ∧
    answers (exec .setAlarm { idle with ms := 9#4, per := 65535#16 }) (fun _ => true) = true :=
  ⟨⟨rfl, rfl, rfl⟩, fun h => absurd h.2.2 (by decide), by decide⟩

theorem witness_InitTmrStartsOrFails :
    Enabled (.initTmr true) (State.resetWith true) ∧ Reachable (State.resetWith true) ∧ ¬Enabled (.initTmr false) idle :=
  ⟨⟨rfl, rfl, rfl⟩, .reset true, fun h => absurd h.2.2 (by decide)⟩

theorem witness_StartupProgramsThenEnables :
    Enabled .initAlarm { State.reset with ms := 11#4 } ∧ ¬Enabled .initAlarm idle ∧
    Enabled .initEn { State.reset with ms := 12#4 } ∧ ¬Enabled .initEn idle ∧
    answers (exec .initEn { State.reset with ms := 12#4 }) (fun _ => true) = true :=
  ⟨⟨rfl, rfl, rfl⟩, fun h => absurd h.2.2 (by decide), ⟨rfl, rfl, rfl⟩, fun h => absurd h.2.2 (by decide), by decide⟩

theorem witness_HaltNeverSteps :
    ({ idle with ms := 15#4, flt := 1#3 } : State).ms = 15#4 ∧ ({ idle with ms := 15#4, flt := 1#3 } : State).flt ≠ 0#3 ∧
    answers (exec .reset { idle with ms := 15#4, flt := 1#3 }) (fun _ => true) = true ∧
    answers (exec (.initTmr false) State.reset) (fun t => t.ms == 15#4) = true := by decide

/-- Enabled with one pending; refused for each of the four reasons; enabled in a run from reset. -/
theorem witness_IEnterTakesOnePending :
    Enabled .iEnter (pending 1 0#32) ∧ (inMainSection 3#4 1#32 1#32).im = true ∧
    ({ idle with is := 6#3 } : State).is ≠ 0#3 ∧ idle.ip = 0 ∧ ({ idle with flt := 1#3 } : State).flt ≠ 0#3 ∧
    Reachable (run (boot ++ [.alarm])) ∧ Enabled .iEnter (run (boot ++ [.alarm])) :=
  ⟨⟨rfl, rfl, by decide, rfl⟩, by decide, by decide, rfl, by decide, run_reachable _, by decide, by decide, by decide,
    by decide⟩

theorem witness_IsrSectionSetsAndClearsFlag :
    Enabled .iCsEnter { idle with is := 1#3 } ∧ ¬Enabled .iCsEnter idle ∧ StateInvariants { idle with is := 1#3 } ∧
    Enabled .iCsExit (inIsrSection 5#3 5#32 5#32) ∧ ¬Enabled .iCsExit idle :=
  ⟨⟨rfl, rfl⟩, fun h => absurd h.2 (by decide), stateInvariants_iCsEnter, ⟨rfl, rfl⟩, fun h => absurd h.2 (by decide)⟩

theorem witness_ILoadReadsCounter : Enabled .iLoad (inIsrSection 2#3 4#32 0#32) ∧ ¬Enabled .iLoad idle :=
  ⟨⟨rfl, rfl⟩, fun h => absurd h.2 (by decide)⟩

/-- The two largest values of `TI`. -/
theorem witness_IIncIncrementsOrRaises :
    (Enabled .iInc (inIsrSection 3#3 0#32 4294967294#32) ∧ (inIsrSection 3#3 0#32 4294967294#32).readTi ≠ 4294967295#32) ∧
    (Enabled .iInc (inIsrSection 3#3 0#32 4294967295#32) ∧ (inIsrSection 3#3 0#32 4294967295#32).readTi = 4294967295#32 ∧
      (inIsrSection 3#3 0#32 4294967295#32).ti.written = true) ∧ ¬Enabled .iInc idle :=
  ⟨⟨⟨rfl, rfl⟩, by decide⟩, ⟨⟨rfl, rfl⟩, by decide, rfl⟩, fun h => absurd h.2 (by decide)⟩

theorem witness_IStoreWritesCounter :
    Enabled .iStore (inIsrSection 4#3 4#32 5#32) ∧ (inIsrSection 4#3 4#32 5#32).ti.written = true ∧ ¬Enabled .iStore idle ∧
    Instr.agent .iInc = .isr ∧ answers (exec .iInc (inIsrSection 3#3 4#32 4#32)) (fun t => t.pt == 4#32) = true :=
  ⟨⟨rfl, rfl⟩, rfl, fun h => absurd h.2 (by decide), rfl, by decide⟩

theorem witness_IRetReturnsRestoringNothing :
    Enabled .iRet { pending 1 1#32 with is := 6#3 } ∧ StateInvariants { pending 1 1#32 with is := 6#3 } ∧
    answers (exec .iRet { pending 1 1#32 with is := 6#3 }) (fun _ => true) = true ∧ ¬Enabled .iRet idle :=
  ⟨⟨rfl, rfl⟩, stateInvariants_iRet, by decide, fun h => absurd h.2 (by decide)⟩

theorem witness_AlarmAddsOnePending :
    Enabled .alarm idle ∧ State.reset.en = false ∧ ({ idle with flt := 1#3 } : State).flt ≠ 0#3 ∧ timedIdle.timed = true :=
  ⟨⟨rfl, rfl, rfl⟩, rfl, by decide, rfl⟩

/-- The count about to wrap to 0, whatever `TC_WIDTH` and `ALARM_COMPARE` are: it fires at alarm value 0, and does not at
the largest one. -/
theorem witness_UstepCountsAndFires (tc : Nat) (h : tc = 2 ^ Config.tcWidth - 1) :
    0 = (({ timedIdle with tc := tc } : State).tc + 1) % 2 ^ Config.tcWidth ∧ Enabled .ustep { timedIdle with tc := tc } ∧
    idle.timed = false ∧
    ((Config.alarmCompare = .ge ∧ ({ idle with av := ⟨0#32, true⟩ } : State).readAv.toNat ≤ 0) ∨
      (Config.alarmCompare = .eq ∧ 0 = ({ idle with av := ⟨0#32, true⟩ } : State).readAv.toNat)) ∧
    ¬((Config.alarmCompare = .ge ∧ ({ idle with av := ⟨4294967295#32, true⟩ } : State).readAv.toNat ≤ 0) ∨
      (Config.alarmCompare = .eq ∧ 0 = ({ idle with av := ⟨4294967295#32, true⟩ } : State).readAv.toNat)) := by
  have hp : 0 < 2 ^ Config.tcWidth := Nat.two_pow_pos _
  refine ⟨?_, ⟨rfl, rfl, rfl⟩, rfl, ?_, ?_⟩
  · show 0 = (tc + 1) % 2 ^ Config.tcWidth
    rw [h, Nat.sub_add_cancel hp, Nat.mod_self]
  · cases hc : Config.alarmCompare
    · exact .inl ⟨rfl, by decide⟩
    · exact .inr ⟨rfl, by decide⟩
  · rintro (⟨-, h0⟩ | ⟨-, h0⟩)
    · exact absurd h0 (by decide)
    · exact absurd h0 (by decide)

/-- A faulted state, and the one step it has. -/
theorem witness_ResetRewritesEveryItem :
    ({ idle with flt := 3#3, ms := 15#4 } : State).flt ≠ 0#3 ∧
    answers (exec .reset { idle with flt := 3#3, ms := 15#4 }) (fun t => t.flt == 0#3) = true := by decide

/-! ### Witnesses: debounce and period -/

theorem witness_AcceptanceTestIsStrict :
    accepts Config.params (atDbInc 500#16 true 0#32).lvInc (atDbInc 500#16 true 0#32).readLaInc false 200#32 = false ∧
    accepts Config.params (atDbDec 500#16 true 0#32).lvDec (atDbDec 500#16 true 0#32).readLaDec false 200#32 = false := by decide

theorem witness_ElapsedAcrossClockWrap : 4294967295 ≤ 4294967296 + 199 ∧ 4294967296 + 199 - 4294967295 < 2 ^ 32 := by decide

/-- The parameters at their defaults, and periods at both bounds and one step's edge from them. -/
theorem witness_PeriodStepsClamp :
    Params.WellFormed {} ∧ Params.WellFormed { floorMs := 1, ceilMs := 2, defaultMs := 1, stepMs := 60 } ∧
    (Config.params.floorMs ≤ 100 ∧ 2000 ≤ Config.params.ceilMs) ∧
    (149 < Config.params.floorMs + Config.params.stepMs ∧ Config.params.ceilMs < 1951 + Config.params.stepMs) := by decide

theorem witness_SimultaneousPressesApplyBoth :
    (atDbInc 100#16 false 0#32).flt = 0#3 ∧ (atDbInc 100#16 false 0#32).is = 0#3 ∧ (atDbInc 100#16 false 0#32).ms = 7#4 ∧
    (atDbInc 100#16 false 0#32).lvInc = false ∧ (atDbInc 100#16 false 0#32).lvDec = false ∧
    200 < (201#32 - (atDbInc 2000#16 true 0#32).readLaInc).toNat ∧ 150 ≤ (atDbInc 2000#16 true 0#32).per.toNat ∧
    (atDbInc 2000#16 true 0#32).per.toNat ≤ 2000 := by decide

theorem witness_AlarmPeriodIsAlarmValue : (1 ≤ 1 ∧ 1 < 2 ^ 1 ∧ 0 < 1) ∧ 1 ≤ 500000 ∧ 500000 < 2 ^ 19 ∧ 499999 < 500000 := by decide

/-! ### Witnesses: the handoff -/

theorem witness_LockedCounterMovesByOne :
    (Inv (inMainSection 4#4 3#32 2#32) ∧ answers (exec .store (inMainSection 4#4 3#32 2#32)) (fun t => t.pt == 2#32) = true) ∧
    (Inv (inIsrSection 4#3 4#32 5#32) ∧ answers (exec .iStore (inIsrSection 4#3 4#32 5#32)) (fun t => t.pt == 5#32) = true) ∧
    answers (exec .alarm (inIsrSection 4#3 4#32 5#32)) (fun _ => true) = true :=
  ⟨⟨inv_store, by decide⟩, ⟨inv_iStore, by decide⟩, by decide⟩

/-- The largest counter value that a run may start from, with the timer enabled, with it disabled and no alarm, and in the
timed refinement. -/
theorem witness_IsrRunNetEffect :
    ((pending 1 4294967294#32).flt = 0#3 ∧ (pending 1 4294967294#32).is = 0#3 ∧ 0 < (pending 1 4294967294#32).ip ∧
      (pending 1 4294967294#32).im = false ∧ (pending 1 4294967294#32).pt.toNat < 2 ^ 32 - 1 ∧
      (pending 1 4294967294#32).en = true ∧ (pending 1 4294967294#32).timed = false) ∧
    (({ pending 1 0#32 with en := false } : State).en = false ∧ 0 + 0 + 0 + 0 + 0 + 0 = 0) ∧
    (({ pending 1 4294967294#32 with timed := true } : State).en = true ∧
      ({ pending 1 4294967294#32 with timed := true } : State).timed = true) := by decide

theorem witness_IsrRunTakesSevenTurns :
    (pending 1 4294967294#32).flt = 0#3 ∧ (pending 1 4294967294#32).is = 0#3 ∧ 0 < (pending 1 4294967294#32).ip ∧
    (pending 1 4294967294#32).im = false ∧ (pending 1 4294967294#32).pt ≠ 4294967295#32 ∧ 7 ≤ 7 := by decide

/-- Five ISR runs, one at each point, up to the largest counter value. -/
theorem witness_ConsumeTransactionNetEffect :
    (pending 5 4294967290#32).flt = 0#3 ∧ (pending 5 4294967290#32).ms = 0#4 ∧ (pending 5 4294967290#32).is = 0#3 ∧
    (pending 5 4294967290#32).im = false ∧ 1 ≤ (pending 5 4294967290#32).pt.toNat ∧
    1 + 1 + 1 + 1 + 1 ≤ (pending 5 4294967290#32).ip ∧
    (pending 5 4294967290#32).pt.toNat + (1 + 1 + 1 + 1 + 1) < 2 ^ 32 := by decide

/-! ### Witnesses: ends of runs and invariants -/

/-- `RESET` is a step of the unit halted by a startup failure. -/
theorem witness_StartupFailureHaltsUntilReset :
    answers (execAll [.initTmr false, .reset] State.reset) (fun t => t.flt == 0#3 && t.ms == 10#4) = true := by decide

theorem witness_IdlePollStaysQuiescent : idle.Quiescent ∧ ({ idle with flt := 2#3, ms := 15#4 } : State).Faulted :=
  ⟨⟨rfl, rfl, rfl, rfl, rfl⟩, fun h => absurd h (by decide)⟩

/-- The invariant with MAIN inside its section, and a step from there. -/
theorem witness_StepKeepsInvariant :
    Inv { inMainSection 4#4 3#32 2#32 with trace := [.word (encode .store)] } ∧
    answers (step { inMainSection 4#4 3#32 2#32 with trace := [.word (encode .store)] }) (fun t => t.pt == 2#32) = true := by
  refine ⟨inv_of_items ?_ (by decide) (by decide) rfl rfl rfl rfl rfl rfl, by decide⟩
  constructor <;> decide

/-- A state of a run from reset with one tick counted. -/
theorem witness_ReachableStateInvariants : Reachable (run tickServed) ∧ (run tickServed).pt = 1#32 :=
  ⟨run_reachable _, by decide⟩

theorem witness_TimerProgrammedAtPoll : Reachable (run boot) ∧ (run boot).ms = 0#4 ∧ (run boot).en = true :=
  ⟨run_reachable _, by decide, by decide⟩

theorem witness_PeriodStaysInRange : Reachable (run boot) ∧ (run boot).av.written = true := ⟨run_reachable _, by decide⟩

/-- A counted run with an alarm pending and one already stored by the ISR. -/
theorem witness_TickConservation :
    CountedRun (counted (tickServed ++ [.alarm])).1 (counted (tickServed ++ [.alarm])).2 ∧
    (counted (tickServed ++ [.alarm])).1 = ⟨2, 0, 0⟩ ∧ (counted (tickServed ++ [.alarm])).2.flt = 0#3 :=
  ⟨counted_run _, by decide, by decide⟩

/-- A counted run through one whole transaction, which ends quiescent. -/
theorem witness_ToggleCountMatchesTicks :
    CountedRun (counted (tickServed ++ Pseudo.expand (.consume false 1000#32 true 1000#32))).1
      (counted (tickServed ++ Pseudo.expand (.consume false 1000#32 true 1000#32))).2 ∧
    (counted (tickServed ++ Pseudo.expand (.consume false 1000#32 true 1000#32))).1 = ⟨1, 1, 1⟩ ∧
    (counted (tickServed ++ Pseudo.expand (.consume false 1000#32 true 1000#32))).2.Quiescent :=
  ⟨counted_run _, by decide, by decide, by decide, by decide, by decide, by decide⟩

/-- Three ticks counted in `PT`, one of them about to be consumed by `STORE`. -/
theorem witness_StepKeepsLedger :
    Inv (inMainSection 4#4 3#32 2#32) ∧ TicksConserved ⟨3, 0, 0⟩ (inMainSection 4#4 3#32 2#32) ∧
    TogglesCounted ⟨3, 0, 0⟩ (inMainSection 4#4 3#32 2#32) ∧
    answers (exec .store (inMainSection 4#4 3#32 2#32)) (fun t => t.pt == 2#32) = true :=
  ⟨inv_store, fun _ => rfl, fun _ => ⟨rfl, rfl⟩, by decide⟩

end Sys2Proof.Tests
end

section
/-! PROOF. The interrupt service routine (spec file 41): what each of its micro-operations answers, who writes the shared
cell, and that a return leaves `I_ENTER` enabled when another alarm is pending. -/

namespace Sys2Proof.Machine

open Sys2Proof

variable {s t : State}

/-! ### What each micro-operation of the ISR answers -/

theorem exec_iEnter (s : State) : exec .iEnter s = whenEnabled s.EntryOpen { s with ip := s.ip - 1, is := 1#3 } := rfl

theorem exec_iCsEnter (s : State) : exec .iCsEnter s = whenEnabled (s.IsrAt 1#3) { s with csi := true, is := 2#3 } := rfl

theorem exec_iLoad (s : State) : exec .iLoad s = whenEnabled (s.IsrAt 2#3) { s with ti := ⟨s.pt, true⟩, is := 3#3 } := rfl

theorem exec_iInc_of_max (h : s.readTi = BitVec.allOnes 32) :
    exec .iInc s = whenEnabled (s.IsrAt 3#3) { s with flt := 2#3, ms := 15#4 } :=
  congrArg (whenEnabled (s.IsrAt 3#3)) (if_pos h)

theorem exec_iInc_of_lt (h : s.readTi ≠ BitVec.allOnes 32) :
    exec .iInc s = whenEnabled (s.IsrAt 3#3) { s with ti := ⟨s.readTi + 1#32, true⟩, is := 4#3 } :=
  congrArg (whenEnabled (s.IsrAt 3#3)) (if_neg h)

theorem exec_iStore (s : State) : exec .iStore s = whenEnabled (s.IsrAt 4#3) { s with pt := s.readTi, is := 5#3 } := rfl

theorem exec_iCsExit (s : State) : exec .iCsExit s = whenEnabled (s.IsrAt 5#3) { s with csi := false, is := 6#3 } := rfl

theorem exec_iRet (s : State) : exec .iRet s = whenEnabled (s.IsrAt 6#3) { s with is := 0#3 } := rfl

/-! ### Who writes the shared cell (R124) -/

/-- A guarded micro-operation keeps whatever its one possible next state keeps. -/
theorem whenEnabled_next_keeps {α : Type} (f : State → α) {p : Prop} [Decidable p] {u : State}
    (h : whenEnabled p u = .next t) (hu : f u = f s) : f t = f s := by
  obtain ⟨-, rfl⟩ := whenEnabled_next.mp h
  exact hu

/-- `I_STORE` is the one micro-operation of the ISR that writes the cell: each other one has a next state with the cell as
it was, `I_INC` both where it increments and where it raises. -/
theorem exec_isr_keeps_pt {i : Instr} (hisr : i.agent = .isr) (hne : i ≠ .iStore) (h : exec i s = .next t) :
    t.pt = s.pt := by
  cases i with
  | iEnter => rw [exec_iEnter] at h; exact whenEnabled_next_keeps State.pt h rfl
  | iCsEnter => rw [exec_iCsEnter] at h; exact whenEnabled_next_keeps State.pt h rfl
  | iLoad => rw [exec_iLoad] at h; exact whenEnabled_next_keeps State.pt h rfl
  | iInc =>
    by_cases hmax : s.readTi = BitVec.allOnes 32
    · rw [exec_iInc_of_max hmax] at h; exact whenEnabled_next_keeps State.pt h rfl
    · rw [exec_iInc_of_lt hmax] at h; exact whenEnabled_next_keeps State.pt h rfl
  | iStore => exact absurd rfl hne
  | iCsExit => rw [exec_iCsExit] at h; exact whenEnabled_next_keeps State.pt h rfl
  | iRet => rw [exec_iRet] at h; exact whenEnabled_next_keeps State.pt h rfl
  | _ => cases hisr

/-- Settles O35: I_STORE's answer is its equation, and the frame is `exec_isr_keeps_pt`. -/
theorem iStoreWritesCounter : Obligations.IStoreWritesCounter := by
  intro s
  refine ⟨fun hflt his => ?_, fun hoff => ?_, rfl, rfl, State.readTi_of_written s, fun i t => exec_isr_keeps_pt⟩
  · rw [exec_iStore]; exact whenEnabled_of ⟨hflt, his⟩
  · rw [exec_iStore]; exact whenEnabled_of_not hoff

/-! ### The return (R126) -/

/-- The mask is clear while an ISR run is in progress: R245's `mask_excludes_isr`, read backwards. -/
theorem StateInvariants.im_eq_false_of_isr (hinv : StateInvariants s) (his : s.is ≠ 0#3) : s.im = false :=
  Bool.eq_false_iff.mpr fun him => his (hinv.mask_excludes_isr him)

/-- Back-to-back runs: the return keeps `FLT`, `IP` and the clear mask, so only a pending alarm is needed. -/
theorem iEnter_enabled_after_iRet (hinv : StateInvariants s) (h : exec .iRet s = .next t) (hip : 0 < s.ip) :
    Enabled .iEnter t := by
  rw [exec_iRet] at h
  obtain ⟨⟨hflt, his⟩, rfl⟩ := whenEnabled_next.mp h
  have him : s.im = false := hinv.im_eq_false_of_isr (by simp [his])
  exact ⟨hflt, rfl, hip, him⟩

/-- Settles O36: I_RET's answer is its equation, and what follows it is `iEnter_enabled_after_iRet`. -/
theorem iRetReturnsRestoringNothing : Obligations.IRetReturnsRestoringNothing := by
  intro s
  refine ⟨fun hflt his => ?_, fun hoff => ?_, rfl, rfl, fun t => iEnter_enabled_after_iRet⟩
  · rw [exec_iRet]; exact whenEnabled_of ⟨hflt, his⟩
  · rw [exec_iRet]; exact whenEnabled_of_not hoff

end Sys2Proof.Machine
end

section
/-! PROOF. Debounce and frequency adjustment (spec file 43): the acceptance test and the two clamped steps with the default
parameters written out, and what `DB_INC` and `DB_DEC` answer on an accepted and on a rejected sample. -/

namespace Sys2Proof.Machine

open Sys2Proof

variable {s : State} {lvl : Bool} {now : Millis}

/-! ### The acceptance test with the default window (R162) -/

/-- The clock is as wide as its sample, so reducing the elapsed time to `CLK_WIDTH` bits changes nothing. -/
theorem elapsed_params (now la : Millis) : elapsed Config.params now la = (now - la).toNat :=
  Nat.mod_eq_of_lt (now - la).isLt

/-- R162's latch: without a prior press (`LV = 0`) the window is not asked. -/
theorem accepts_params (lv : Bool) (la : Millis) (lvl : Bool) (now : Millis) :
    accepts Config.params lv la lvl now = true ↔ lvl = false ∧ (lv = false ∨ 200 < (now - la).toNat) := by
  have hwindow : Config.params.windowMs = 200 := rfl
  rw [accepts_iff, elapsed_params, hwindow]
  cases lv <;> simp

/-- A sample that fails the written-out test of R162 is rejected. -/
theorem accepts_params_eq_false {lv : Bool} {la : Millis} (h : ¬(lvl = false ∧ (lv = false ∨ 200 < (now - la).toNat))) :
    accepts Config.params lv la lvl now = false :=
  Bool.eq_false_iff.mpr (mt (accepts_params lv la lvl now).mp h)

/-- The difference of two samples is the one of their numbers modulo `2^32`, also where the clock wrapped in between. -/
theorem millis_sub_toNat (now la : Millis) : (now - la).toNat = (now.toNat + 2 ^ 32 - la.toNat) % 2 ^ 32 := by
  rw [BitVec.toNat_sub]
  congr 1
  omega

/-! ### The clamped steps as the register holds them (R163, R164) -/

/-- Away from the floor the subtraction cannot borrow. -/
theorem toPeriod_shorten (per : Period) :
    toPeriod (shorten Config.params per.toNat) = if per.toNat < 150 then 100#16 else per - 50#16 := by
  change toPeriod (if per.toNat < 150 then 100 else per.toNat - 50) = _
  split
  case isTrue => rfl
  case isFalse hfloor =>
    apply BitVec.eq_of_toNat_eq
    rw [toPeriod_toNat (by omega)]
    bv_omega

/-- Up to the ceiling the sum cannot carry out of the register. -/
theorem toPeriod_lengthen (per : Period) :
    toPeriod (lengthen Config.params per.toNat) = if 1950 < per.toNat then 2000#16 else per + 50#16 := by
  have hceil : 2000 < per.toNat + 50 ↔ 1950 < per.toNat := by omega
  change toPeriod (if 2000 < per.toNat + 50 then 2000 else per.toNat + 50) = _
  simp only [hceil]
  split
  case isTrue => rfl
  case isFalse hle =>
    apply BitVec.eq_of_toNat_eq
    rw [toPeriod_toNat (by omega)]
    bv_omega

/-! ### The debounce step of each button -/

theorem State.pressInc_of_accepts (h : accepts Config.params s.lvInc s.readLaInc lvl now = true) :
    s.pressInc lvl now = { s with
      lvInc := true, laInc := ⟨now, true⟩, per := if s.per.toNat < 150 then 100#16 else s.per - 50#16 } := by
  rw [State.pressInc, if_pos h, toPeriod_shorten]
  rfl

theorem State.pressInc_of_rejects (h : accepts Config.params s.lvInc s.readLaInc lvl now = false) :
    s.pressInc lvl now = s :=
  if_neg (Bool.eq_false_iff.mp h)

theorem State.pressDec_of_accepts (h : accepts Config.params s.lvDec s.readLaDec lvl now = true) :
    s.pressDec lvl now = { s with
      lvDec := true, laDec := ⟨now, true⟩, per := if 1950 < s.per.toNat then 2000#16 else s.per + 50#16 } := by
  rw [State.pressDec, if_pos h, toPeriod_lengthen]
  rfl

theorem State.pressDec_of_rejects (h : accepts Config.params s.lvDec s.readLaDec lvl now = false) :
    s.pressDec lvl now = s :=
  if_neg (Bool.eq_false_iff.mp h)

/-- Settles O40: the test is `accepts_params`, and a rejected sample leaves each button's step without effect. -/
theorem acceptanceTestIsStrict : Obligations.AcceptanceTestIsStrict := by
  refine ⟨fun lv lvl la now => ?_, fun s lvl now => ⟨State.pressInc_of_rejects, State.pressDec_of_rejects⟩⟩
  rw [accepts_params, millis_sub_toNat]

/-! ### What `DB_INC` and `DB_DEC` answer -/

theorem exec_dbInc (lvl : Bool) (now : Millis) (s : State) :
    exec (.dbInc lvl now) s = whenEnabled (s.MainAt 7#4) { s.pressInc lvl now with ms := 8#4 } := rfl

theorem exec_dbDec (lvl : Bool) (now : Millis) (s : State) :
    exec (.dbDec lvl now) s = whenEnabled (s.MainAt 8#4) { s.pressDec lvl now with ms := 9#4 } := rfl

/-- Settles O25: DB_INC's answer is its equation, by whether the sample is accepted. -/
theorem dbIncAcceptsAndShortens : Obligations.DbIncAcceptsAndShortens := by
  intro s lvl now
  refine ⟨fun hflt his hms hacc => ?_, fun hflt his hms hrej => ?_, fun hoff => ?_, rfl, rfl,
    State.readLaInc_of_written s⟩
  · rw [exec_dbInc, State.pressInc_of_accepts ((accepts_params _ _ _ _).mpr hacc)]
    exact whenEnabled_of ⟨hflt, his, hms⟩
  · rw [exec_dbInc, State.pressInc_of_rejects (accepts_params_eq_false hrej)]
    exact whenEnabled_of ⟨hflt, his, hms⟩
  · rw [exec_dbInc]; exact whenEnabled_of_not hoff

/-- Settles O26: DB_DEC's answer is its equation, by whether the sample is accepted. -/
theorem dbDecAcceptsAndLengthens : Obligations.DbDecAcceptsAndLengthens := by
  intro s lvl now
  refine ⟨fun hflt his hms hacc => ?_, fun hflt his hms hrej => ?_, fun hoff => ?_, rfl, rfl,
    State.readLaDec_of_written s⟩
  · rw [exec_dbDec, State.pressDec_of_accepts ((accepts_params _ _ _ _).mpr hacc)]
    exact whenEnabled_of ⟨hflt, his, hms⟩
  · rw [exec_dbDec, State.pressDec_of_rejects (accepts_params_eq_false hrej)]
    exact whenEnabled_of ⟨hflt, his, hms⟩
  · rw [exec_dbDec]; exact whenEnabled_of_not hoff

end Sys2Proof.Machine
end

section
/-! PROOF. The fault ILLEGAL_STATE (spec file 60, R185): a sequencer at a reserved value raises it, and no run from reset
comes to one, since every value that an instruction writes to `MS`, `IS` or `FLT` is one that the unit defines. -/

namespace Sys2Proof.Machine

open Sys2Proof

variable {s t : State}

/-! ### A sequencer at a value that names no micro-operation -/

/-- MAIN's turn where `MS` names no micro-operation; at `MS = 15` the unit is halted instead (R149). -/
theorem stepMain_of_none {lvl ok : Bool} {now : Millis} (hflt : s.flt = 0#3) (his : s.is = 0#3) (hms : s.ms ≠ 15#4)
    (hnone : mainInstr s.ms lvl ok now = none) : stepMain lvl ok now s = .next (s.raise .illegalState) := by
  simp [stepMain, hflt, his, hms, hnone]

/-- The ISR's turn where `IS` names no micro-operation. -/
theorem stepIsr_of_none (hflt : s.flt = 0#3) (hnone : isrInstr s.is = none) :
    stepIsr s = .next (s.raise .illegalState) := by
  simp [stepIsr, hflt, hnone]

/-- The MAIN half of R185; neither value is that of `HALT`. -/
theorem stepMain_at_reserved (lvl ok : Bool) (now : Millis) (hflt : s.flt = 0#3) (his : s.is = 0#3)
    (hms : s.ms = 13#4 ∨ s.ms = 14#4) : stepMain lvl ok now s = .next (s.raise .illegalState) := by
  obtain h13 | h14 := hms
  · exact stepMain_of_none hflt his (by simp [h13]) (by rw [h13]; rfl)
  · exact stepMain_of_none hflt his (by simp [h14]) (by rw [h14]; rfl)

/-- The ISR half of R185. -/
theorem stepIsr_at_reserved (hflt : s.flt = 0#3) (his : s.is = 7#3) : stepIsr s = .next (s.raise .illegalState) :=
  stepIsr_of_none hflt (by rw [his]; rfl)

/-- The opcode map (R86, R87) has a hole at each reserved value of a sequencer. -/
theorem stepCode_ne_reserved (i : Instr) : i.stepCode ≠ 0x0D#6 ∧ i.stepCode ≠ 0x0E#6 ∧ i.stepCode ≠ 0x17#6 := by
  cases i <;> (simp only [Instr.stepCode]; decide)

/-! ### Runs from reset -/

/-- The induction over a run, once: a property of the reset state that neither the model's own `trace` and `draws` nor any
turn can break holds in every state of every run. -/
theorem Reachable.keeps {P : State → Prop} (hreset : ∀ timed, P (State.resetWith timed))
    (hfetch : ∀ (s : State) (ts : List Turn) (n : Nat), P s → P { s with trace := ts, draws := n })
    (hturn : ∀ (u : Turn) (s t : State), P s → runTurn u s = .next t → P t) (hs : Reachable s) : P s := by
  induction hs with
  | reset timed => exact hreset timed
  | place s ts _ ih => exact hfetch s ts s.draws ih
  | step s t _ hstep ih => exact hturn (nextTurn s) s.afterFetch t (hfetch s s.trace.tail (s.draws + 1) ih) hstep

/-! ### The codes that a run can hold -/

/-- Neither sequencer stands at a reserved value (R23, R24), and no sequencer has raised ILLEGAL_STATE. -/
def State.CodesLegal (s : State) : Prop := s.ms ≠ 13#4 ∧ s.ms ≠ 14#4 ∧ s.is ≠ 7#3 ∧ s.flt ≠ 4#3

theorem State.resetWith_codesLegal (timed : Bool) : (State.resetWith timed).CodesLegal := by
  simp [State.CodesLegal]

theorem State.powerOn_codesLegal (s : State) : s.powerOn.CodesLegal := by simp [State.CodesLegal]

/-- A micro-operation of MAIN that does not raise: of the three items it writes `MS` alone. -/
theorem State.CodesLegal.of_ms (hs : s.CodesLegal) (his : t.is = s.is) (hflt : t.flt = s.flt)
    (hms : t.ms ≠ 13#4 ∧ t.ms ≠ 14#4) : t.CodesLegal := by
  obtain ⟨-, -, his7, hflt4⟩ := hs
  exact ⟨hms.1, hms.2, his ▸ his7, hflt ▸ hflt4⟩

/-- A micro-operation of the ISR that does not raise: of the three items it writes `IS` alone. -/
theorem State.CodesLegal.of_is (hs : s.CodesLegal) (hms : t.ms = s.ms) (hflt : t.flt = s.flt) (his : t.is ≠ 7#3) :
    t.CodesLegal := by
  obtain ⟨hms13, hms14, -, hflt4⟩ := hs
  exact ⟨hms ▸ hms13, hms ▸ hms14, his, hflt ▸ hflt4⟩

/-- A step of the tick source writes none of the three items. -/
theorem State.CodesLegal.of_eq (hs : s.CodesLegal) (hms : t.ms = s.ms) (his : t.is = s.is) (hflt : t.flt = s.flt) :
    t.CodesLegal := by
  rwa [State.CodesLegal, hms, his, hflt]

/-- Raising a cause other than ILLEGAL_STATE: `MS` comes to `HALT`, which is a value of its own. -/
theorem State.CodesLegal.raise {c : FaultCause} (hs : s.CodesLegal) (hc : c ≠ .illegalState) :
    (s.raise c).CodesLegal := by
  obtain ⟨-, -, his7, -⟩ := hs
  exact ⟨by simp, by simp, his7, fun hcode => hc (FaultCause.code_injective hcode)⟩

/-- A guarded micro-operation leaves legal codes when the one next state that it can answer has them. -/
theorem State.CodesLegal.of_whenEnabled {p : Prop} [Decidable p] {u : State} (h : whenEnabled p u = .next t)
    (hu : u.CodesLegal) : t.CodesLegal := by
  obtain ⟨-, rfl⟩ := whenEnabled_next.mp h
  exact hu

/-! ### Frames of the shared operations that have a branch -/

theorem State.pressInc_is (s : State) (lvl : Bool) (now : Millis) : (s.pressInc lvl now).is = s.is := by
  obtain h | h := s.pressInc_cases lvl now <;> simp [h]

theorem State.pressInc_flt (s : State) (lvl : Bool) (now : Millis) : (s.pressInc lvl now).flt = s.flt := by
  obtain h | h := s.pressInc_cases lvl now <;> simp [h]

theorem State.pressDec_is (s : State) (lvl : Bool) (now : Millis) : (s.pressDec lvl now).is = s.is := by
  obtain h | h := s.pressDec_cases lvl now <;> simp [h]

theorem State.pressDec_flt (s : State) (lvl : Bool) (now : Millis) : (s.pressDec lvl now).flt = s.flt := by
  obtain h | h := s.pressDec_cases lvl now <;> simp [h]

/-- All that a timer tick does to the state: the pending count and the timer's own (R102). -/
theorem State.tick_eq (s : State) : s.tick = { s with ip := s.tick.ip, tc := s.tick.tc } := by
  unfold State.tick
  split <;> rfl

/-! ### Every instruction and every turn keeps them -/

/-- By the agent: the three causes that instructions raise are not ILLEGAL_STATE, and a program counter gets only values
that the unit defines. -/
theorem exec_keeps_codesLegal {i : Instr} (hs : s.CodesLegal) (h : exec i s = .next t) : t.CodesLegal := by
  cases i with
  | poll =>
    refine .of_whenEnabled h (hs.of_ms rfl rfl ?_)
    rw [State.setMs_ms]
    split <;> decide
  | csEnter | load | store | csExit | toggle | setAlarm | initAlarm | initEn =>
    exact .of_whenEnabled h (hs.of_ms rfl rfl (by simp))
  | dbInc lvl now => exact .of_whenEnabled h (hs.of_ms (s.pressInc_is lvl now) (s.pressInc_flt lvl now) (by simp))
  | dbDec lvl now => exact .of_whenEnabled h (hs.of_ms (s.pressDec_is lvl now) (s.pressDec_flt lvl now) (by simp))
  | dec =>
    refine .of_whenEnabled h ?_
    split
    · exact hs.raise (by decide)
    · exact hs.of_ms rfl rfl (by simp)
  | initTmr ok =>
    refine .of_whenEnabled h ?_
    split
    · exact hs.of_ms rfl rfl (by simp)
    · exact hs.raise (by decide)
  | halt => cases h
  | iInc =>
    refine .of_whenEnabled h ?_
    split
    · exact hs.raise (by decide)
    · exact hs.of_is rfl rfl (by simp)
  | iEnter | iCsEnter | iLoad | iStore | iCsExit | iRet => exact .of_whenEnabled h (hs.of_is rfl rfl (by simp))
  | alarm => exact .of_whenEnabled h (hs.of_eq rfl rfl rfl)
  | ustep =>
    refine .of_whenEnabled h ?_
    rw [State.tick_eq]
    exact hs.of_eq rfl rfl rfl
  | reset =>
    cases h
    exact s.powerOn_codesLegal

/-- A turn is an instruction, or a sequencer raises; the latter asks for a reserved value, which legal codes exclude. -/
theorem runTurn_keeps_codesLegal {u : Turn} (hs : s.CodesLegal) (h : runTurn u s = .next t) : t.CodesLegal := by
  obtain ⟨i, hexec⟩ | ⟨-, -, hreserved⟩ := runTurn_next h
  · exact exec_keeps_codesLegal hs hexec
  · obtain ⟨hms13, hms14, his7, -⟩ := hs
    obtain h13 | h14 | h7 := hreserved
    · exact absurd h13 hms13
    · exact absurd h14 hms14
    · exact absurd h7 his7

theorem Reachable.codesLegal (hs : Reachable s) : s.CodesLegal :=
  hs.keeps State.resetWith_codesLegal (fun _ _ _ h => h.of_eq rfl rfl rfl) (fun _ _ _ => runTurn_keeps_codesLegal)

/-- Settles O8: the two turns are the sequencers' own at a reserved value, the opcode map has no such code, and a run keeps
the codes legal from reset on. -/
theorem reservedSequencerCodesRaise : Obligations.ReservedSequencerCodesRaise :=
  ⟨fun _ lvl ok now => stepMain_at_reserved lvl ok now, fun _ => stepIsr_at_reserved, stepCode_ne_reserved,
    fun _ => Reachable.codesLegal⟩

end Sys2Proof.Machine
end

section
/-! PROOF. Reset and the halted unit (spec file 70, R224): the answer of `INIT_TMR` to a failed startup, and that every
instruction but `RESET` asks for an unfaulted unit. -/

namespace Sys2Proof.Machine

open Sys2Proof

variable {s t : State}

theorem exec_initTmr_of_fail (s : State) :
    exec (.initTmr false) s = whenEnabled (s.MainAt 10#4) (s.raise .startupFail) := rfl

/-- `FLT = 0` is part of every guard: the first conjunct of MAIN's and the ISR's, the second of the tick source's. -/
theorem State.Faulted.eq_reset_of_exec_next {i : Instr} (hs : s.Faulted) (h : exec i s = .next t) : i = .reset := by
  cases i with
  | poll | csEnter | load | dec | store | csExit | toggle | dbInc | dbDec | setAlarm | initTmr | initAlarm | initEn
  | iEnter | iCsEnter | iLoad | iInc | iStore | iCsExit | iRet =>
    obtain ⟨⟨hflt, -⟩, -⟩ := whenEnabled_next.mp h
    exact absurd hflt hs
  | alarm | ustep =>
    obtain ⟨⟨-, hflt, -⟩, -⟩ := whenEnabled_next.mp h
    exact absurd hflt hs
  | halt => cases h
  | reset => rfl

theorem State.raise_faulted (s : State) (c : FaultCause) : (s.raise c).Faulted := FaultCause.code_ne_zero c

/-- Settles O51: the failed startup raises STARTUP_FAIL, which keeps `EN` and the pin as reset left them, and a faulted
unit answers `RESET` alone. -/
theorem startupFailureHaltsUntilReset : Obligations.StartupFailureHaltsUntilReset := by
  intro timed
  refine ⟨(State.resetWith timed).raise .startupFail, ?_, rfl, rfl, rfl, rfl, fun i u hexec => ?_⟩
  · rw [exec_initTmr_of_fail]; exact whenEnabled_of ⟨rfl, rfl, rfl⟩
  · exact (State.raise_faulted _ _).eq_reset_of_exec_next hexec

end Sys2Proof.Machine
end

section
/-! PROOF. The trace word (spec file 30): a word is its four fields put together, the format of a step code says which of
them are free, and so decoder, encoder and opcode table agree on every word. -/

namespace Sys2Proof

variable {w : TraceWord} {i : Instr}

/-! ### A word is its fields (R81) -/

/-- `aa ++ op`, the upper six bits. -/
def codeField (w : TraceWord) : StepCode := aaField w ++ opField w

@[simp] theorem codeField_assemble (c : StepCode) (lvl ok : Bool) (now : Millis) :
    codeField (assemble c lvl ok now) = c := by
  rw [codeField, aaField_assemble, opField_assemble, Laws.StepCodePlaced.split_code]

theorem codeField_eq_extractLsb' (w : TraceWord) : codeField w = w.extractLsb' 34 6 :=
  BitVec.extractLsb'_append_extractLsb'_eq_extractLsb' (by omega)

/-- Taking a word apart drops no bit. -/
theorem assemble_fields (w : TraceWord) : assemble (codeField w) (lvlField w) (okField w) (nowField w) = w := by
  apply BitVec.eq_of_getLsbD_eq
  intro k hk
  rw [getLsbD_assemble, codeField_eq_extractLsb']
  by_cases hnow : k < 32
  · simp [hnow, nowField]
  by_cases hok : k = 32
  · simp [hok, okField]
  by_cases hlvl : k = 33
  · simp [hlvl, lvlField]
  have hcode : k - 34 < 6 := by omega
  have hk34 : 34 + (k - 34) = k := by omega
  simp [hnow, hok, hlvl, hcode, hk34]

theorem aaField_eq (w : TraceWord) : aaField w = (codeField w).extractLsb' 4 2 := by
  rw [← aaField_assemble, assemble_fields]

theorem opField_eq (w : TraceWord) : opField w = (codeField w).extractLsb' 0 4 := by
  rw [← opField_assemble, assemble_fields]

theorem assemble_inj {c c' : StepCode} {lvl lvl' ok ok' : Bool} {now now' : Millis} :
    assemble c lvl ok now = assemble c' lvl' ok' now' ↔ c = c' ∧ lvl = lvl' ∧ ok = ok' ∧ now = now' := by
  refine ⟨fun h => ?_, fun ⟨hc, hlvl, hok, hnow⟩ => by rw [hc, hlvl, hok, hnow]⟩
  have hc := congrArg codeField h
  have hlvl := congrArg lvlField h
  have hok := congrArg okField h
  have hnow := congrArg nowField h
  simp only [codeField_assemble, lvlField_assemble, okField_assemble, nowField_assemble] at hc hlvl hok hnow
  exact ⟨hc, hlvl, hok, hnow⟩

theorem assemble_and (c c' : StepCode) (lvl lvl' ok ok' : Bool) (now now' : Millis) :
    assemble c lvl ok now &&& assemble c' lvl' ok' now' =
      assemble (c &&& c') (lvl && lvl') (ok && ok') (now &&& now') := by
  apply BitVec.eq_of_getLsbD_eq
  intro k hk
  simp only [BitVec.getLsbD_and, getLsbD_assemble]
  split_ifs <;> rfl

/-! ### What a word with the step code of an instruction decodes to (R81, R84, R89) -/

/-- The instruction with the step code of `i` and the operands that the fields of `w` give. -/
def Instr.withOperands (i : Instr) (w : TraceWord) : Instr :=
  match i with
  | .dbInc _ _ => .dbInc (lvlField w) (nowField w)
  | .dbDec _ _ => .dbDec (lvlField w) (nowField w)
  | .initTmr _ => .initTmr (okField w)
  | i => i

/-- The fields of `w` that a format does not sample are 0 (R82). -/
def Format.UnusedZero (f : Format) (w : TraceWord) : Prop :=
  match f with
  | .mb => okField w = false
  | .mk => lvlField w = false ∧ nowField w = 0#32
  | .m0 | .i0 | .e0 => lvlField w = false ∧ okField w = false ∧ nowField w = 0#32

/-- The one format that samples `lvl` and `now` is MB, the one that samples `ok` is MK. -/
theorem Format.unusedZero_iff {f : Format} :
    f.UnusedZero w ↔ (f ≠ .mb → lvlField w = false ∧ nowField w = 0#32) ∧ (f ≠ .mk → okField w = false) := by
  cases f <;> simp [Format.UnusedZero, and_assoc, and_comm]

theorem decode_dbInc_code (h : codeField w = 0x07#6) :
    decode w = decodeButton (.dbInc (lvlField w) (nowField w)) (okField w) (nowField w) := by
  unfold decode; rw [aaField_eq, opField_eq, h]; rfl

theorem decode_dbDec_code (h : codeField w = 0x08#6) :
    decode w = decodeButton (.dbDec (lvlField w) (nowField w)) (okField w) (nowField w) := by
  unfold decode; rw [aaField_eq, opField_eq, h]; rfl

theorem decode_initTmr_code (h : codeField w = 0x0A#6) :
    decode w = decodePlatform (.initTmr (okField w)) (lvlField w) (nowField w) := by
  unfold decode; rw [aaField_eq, opField_eq, h]; rfl

/-- The other rows have no operand. -/
theorem decode_bare_code (h : codeField w = i.stepCode) (hmb : i.format ≠ .mb) (hmk : i.format ≠ .mk) :
    decode w = decodeBare i (lvlField w) (okField w) (nowField w) := by
  unfold decode; rw [aaField_eq, opField_eq, h]
  cases i with
  | dbInc | dbDec => exact absurd rfl hmb
  | initTmr => exact absurd rfl hmk
  | _ => rfl

theorem decode_of_code (hcode : codeField w = i.stepCode) (hzero : i.format.UnusedZero w) :
    decode w = .ok (i.withOperands w) := by
  cases i with
  | dbInc => rw [decode_dbInc_code hcode]; exact decodeButton_ok.mpr ⟨hzero, rfl⟩
  | dbDec => rw [decode_dbDec_code hcode]; exact decodeButton_ok.mpr ⟨hzero, rfl⟩
  | initTmr => rw [decode_initTmr_code hcode]; exact decodePlatform_ok.mpr ⟨hzero, rfl⟩
  | _ => rw [decode_bare_code hcode (by decide) (by decide)]; exact decodeBare_ok.mpr ⟨hzero, rfl⟩

theorem decode_of_code_of_unused (hcode : codeField w = i.stepCode) (hzero : ¬i.format.UnusedZero w) :
    decode w = .error .unusedFieldNotZero := by
  cases i with
  | dbInc => rw [decode_dbInc_code hcode]; exact if_pos (Bool.eq_true_of_not_eq_false hzero)
  | dbDec => rw [decode_dbDec_code hcode]; exact if_pos (Bool.eq_true_of_not_eq_false hzero)
  | initTmr => rw [decode_initTmr_code hcode]; exact if_neg hzero
  | _ => rw [decode_bare_code hcode (by decide) (by decide)]; exact if_neg hzero

/-! ### The round trips -/

theorem encode_eq (i : Instr) : ∃ lvl ok now, encode i = assemble i.stepCode lvl ok now := by
  cases i <;> exact ⟨_, _, _, rfl⟩

theorem codeField_encode (i : Instr) : codeField (encode i) = i.stepCode := by
  obtain ⟨lvl, ok, now, h⟩ := encode_eq i
  rw [h, codeField_assemble]

theorem unusedZero_encode (i : Instr) : i.format.UnusedZero (encode i) := by
  cases i <;> simp [Instr.format, Format.UnusedZero, encode]

theorem withOperands_encode (i : Instr) : i.withOperands (encode i) = i := by
  cases i <;> simp [Instr.withOperands, encode]

theorem decode_encode (i : Instr) : decode (encode i) = .ok i := by
  rw [decode_of_code (codeField_encode i) (unusedZero_encode i), withOperands_encode]

/-- Settles O1: the fields of an encoded word are the instruction's own, and every operand fits its field. -/
theorem decodeEncodeRoundTrip : Obligations.DecodeEncodeRoundTrip := fun i _ => decode_encode i

theorem encode_withOperands (hcode : codeField w = i.stepCode) (hzero : i.format.UnusedZero w) :
    encode (i.withOperands w) = w := by
  conv_rhs => rw [← assemble_fields w, hcode]
  cases i with
  | dbInc | dbDec => exact assemble_inj.mpr ⟨rfl, rfl, hzero.symm, rfl⟩
  | initTmr =>
    obtain ⟨hlvl, hnow⟩ := hzero
    exact assemble_inj.mpr ⟨rfl, hlvl.symm, rfl, hnow.symm⟩
  | _ =>
    obtain ⟨hlvl, hok, hnow⟩ := hzero
    exact assemble_inj.mpr ⟨rfl, hlvl.symm, hok.symm, hnow.symm⟩

/-! ### The reserved step codes (R89) -/

theorem decode_of_agent_three (haa : aaField w = 3#2) : decode w = .error .reservedAgent := by
  unfold decode; rw [haa]; rfl

theorem decode_of_main_op (haa : aaField w = 0#2) (hop : opField w = 13#4 ∨ opField w = 14#4) :
    decode w = .error .reservedMainOp := by
  unfold decode; rw [haa]
  obtain h | h := hop <;> rw [h] <;> rfl

theorem decode_of_isr_op (haa : aaField w = 1#2) (hop : 7 ≤ (opField w).toNat) : decode w = .error .reservedIsrOp := by
  unfold decode; rw [haa]
  change decodeIsr _ _ _ _ = _
  unfold decodeIsr
  split
  case h_8 => rfl
  all_goals omega

theorem decode_of_env_op (haa : aaField w = 2#2) (hop : 2 ≤ (opField w).toNat) (hop' : (opField w).toNat ≤ 14) :
    decode w = .error .reservedEnvOp := by
  unfold decode; rw [haa]
  change decodeEnv _ _ _ _ = _
  unfold decodeEnv
  split
  case h_4 => rfl
  all_goals omega

/-- One instruction for each row of the opcode table, in its order. -/
def rowInstrs : List Instr :=
  [.poll, .csEnter, .load, .dec, .store, .csExit, .toggle, .dbInc false 0#32, .dbDec false 0#32, .setAlarm, .initTmr false,
   .initAlarm, .initEn, .halt, .iEnter, .iCsEnter, .iLoad, .iInc, .iStore, .iCsExit, .iRet, .alarm, .ustep, .reset]

/-- The step codes: those of the rows, and the reserved ones of each agent. -/
theorem stepCode_cases : ∀ aa : BitVec 2, ∀ op : BitVec 4,
    aa = 3#2 ∨ (aa = 0#2 ∧ (op = 13#4 ∨ op = 14#4)) ∨ (aa = 1#2 ∧ 7 ≤ op.toNat) ∨
      (aa = 2#2 ∧ 2 ≤ op.toNat ∧ op.toNat ≤ 14) ∨ ∃ j ∈ rowInstrs, aa ++ op = j.stepCode := by
  decide

/-- All that can be decoded: a word with the step code of a row, its unused fields 0. -/
theorem decode_ok_iff : decode w = .ok i ↔
    ∃ j ∈ rowInstrs, codeField w = j.stepCode ∧ j.format.UnusedZero w ∧ i = j.withOperands w := by
  constructor
  · intro h
    obtain haa | ⟨haa, hop⟩ | ⟨haa, hop⟩ | ⟨haa, hop, hop'⟩ | ⟨j, hj, hcode⟩ := stepCode_cases (aaField w) (opField w)
    · simp [decode_of_agent_three haa] at h
    · simp [decode_of_main_op haa hop] at h
    · simp [decode_of_isr_op haa hop] at h
    · simp [decode_of_env_op haa hop hop'] at h
    · by_cases hzero : j.format.UnusedZero w
      · rw [decode_of_code hcode hzero, Except.ok.injEq] at h
        exact ⟨j, hj, hcode, hzero, h.symm⟩
      · simp [decode_of_code_of_unused hcode hzero] at h
  · rintro ⟨j, -, hcode, hzero, rfl⟩
    exact decode_of_code hcode hzero

/-- The clock of the default parameters is as wide as its operand. -/
theorem Instr.wellFormed_params (i : Instr) : i.wellFormed Config.params = true := by
  cases i with
  | dbInc _ now | dbDec _ now => exact decide_eq_true now.isLt
  | _ => rfl

/-- Settles O2: a word that decodes is its fields put together, and `encode` puts the same fields together. -/
theorem encodeDecodeRoundTrip : Obligations.EncodeDecodeRoundTrip := by
  intro w i h
  obtain ⟨j, -, hcode, hzero, rfl⟩ := decode_ok_iff.mp h
  exact ⟨encode_withOperands hcode hzero, Instr.wellFormed_params _⟩

/-! ### The opcode table (R84 to R88) -/

/-- The mask of a format: every bit but those of the fields it samples (R82). -/
def Format.mask : Format → TraceWord
  | .mb => assemble (BitVec.allOnes 6) false true 0#32
  | .mk => assemble (BitVec.allOnes 6) true false (BitVec.allOnes 32)
  | .m0 | .i0 | .e0 => assemble (BitVec.allOnes 6) true true (BitVec.allOnes 32)

/-- The row of the opcode table that an instruction belongs to. -/
def Instr.row (i : Instr) : OpcodeRow := ⟨i.mnemonic, assemble i.stepCode false false 0#32, i.format.mask⟩

theorem opcodeRows_eq : opcodeRows = rowInstrs.map Instr.row := by decide

/-- A row says of a word what the decoder asks: the step code, and 0 in the unused fields. -/
theorem admits_row (i : Instr) (w : TraceWord) :
    i.row.admits w = true ↔ codeField w = i.stepCode ∧ i.format.UnusedZero w := by
  rw [OpcodeRow.admits, beq_iff_eq, Instr.row]
  conv_lhs => rw [← assemble_fields w]
  cases i.format <;>
    simp only [Format.mask, Format.UnusedZero, assemble_and, assemble_inj, BitVec.and_allOnes, BitVec.and_zero,
      Bool.and_true, Bool.and_false, true_and, and_true]

theorem withOperands_mnemonic (i : Instr) (w : TraceWord) : (i.withOperands w).mnemonic = i.mnemonic := by
  cases i <;> rfl

theorem exists_admits_iff : (∃ r ∈ opcodeRows, r.admits w = true) ↔ ∃ i, decode w = .ok i := by
  simp only [opcodeRows_eq, List.mem_map, exists_exists_and_eq_and, admits_row, decode_ok_iff]
  exact ⟨fun ⟨j, hj, hcode, hzero⟩ => ⟨_, j, hj, hcode, hzero, rfl⟩,
    fun ⟨_, j, hj, hcode, hzero, _⟩ => ⟨j, hj, hcode, hzero⟩⟩

/-- Step codes tell the rows apart. -/
theorem rowInstrs_stepCode_nodup : (rowInstrs.map Instr.stepCode).Nodup := by decide

/-- Settles O3: a row admits the words with its step code and 0 in its unused fields, which are those that decode to it;
and step codes tell the rows apart. -/
theorem decodeAcceptsExactlyTableRows : Obligations.DecodeAcceptsExactlyTableRows := by
  refine ⟨fun w => exists_admits_iff.symm, fun w i hi r hr hadm => ?_, ?_⟩
  · obtain ⟨j, hj, hcode, -, rfl⟩ := decode_ok_iff.mp hi
    rw [opcodeRows_eq, List.mem_map] at hr
    obtain ⟨k, hk, rfl⟩ := hr
    have hkcode := ((admits_row k w).mp hadm).1
    obtain rfl := List.inj_on_of_nodup_map rowInstrs_stepCode_nodup hj hk (hcode.symm.trans hkcode)
    exact (withOperands_mnemonic j w).symm
  · rw [opcodeRows_eq, List.pairwise_map]
    refine (List.pairwise_map.mp rowInstrs_stepCode_nodup).imp fun hne w ⟨ha, hb⟩ => hne ?_
    rw [← ((admits_row _ w).mp ha).1, ((admits_row _ w).mp hb).1]

/-- Settles O4: each class of R89 is a range of step codes or an unused field, and what no row admits does not decode. -/
theorem reservedWordsRejectedByClass : Obligations.ReservedWordsRejectedByClass := by
  intro w
  refine ⟨decode_of_agent_three, decode_of_main_op, decode_of_isr_op, decode_of_env_op, fun i hcode hunused => ?_, ?_,
    fun why hwhy s => ?_⟩
  · refine decode_of_code_of_unused hcode.symm fun hzero => ?_
    obtain ⟨hmb, hmk⟩ := Format.unusedZero_iff.mp hzero
    obtain ⟨hf, hlvl | hnow⟩ | ⟨hf, hok⟩ := hunused
    · simp [(hmb hf).1] at hlvl
    · exact hnow (hmb hf).2
    · simp [hmk hf] at hok
  · have hnone : (∀ r ∈ opcodeRows, r.admits w = false) ↔ ¬∃ i, decode w = .ok i := by
      rw [← exists_admits_iff]; simp
    rw [hnone]
    cases decode w <;> simp
  · simp [Machine.runTurn, Machine.runWord, hwhy]

/-- Settles O5: each word's fields are those of the instruction's row, or of its class of reserved words. -/
theorem sampleWordsDecode : Obligations.SampleWordsDecode := by
  unfold Obligations.SampleWordsDecode
  decide

end Sys2Proof
end

section
/-! PROOF. What an instruction answers: the equation of each micro-operation of MAIN and of the environment (those of the ISR
and of the two buttons stand above), when there is a next state, what a fault changes, and who writes which item. -/

namespace Sys2Proof.Machine

open Sys2Proof

variable {s t : State} {i : Instr}

/-! ### The equation of each micro-operation -/

theorem exec_poll (s : State) : exec .poll s =
    whenEnabled (s.MainAt 0#4) { s with tm := ⟨s.pt, true⟩, ms := if s.pt = 0#32 then 0#4 else 1#4 } := rfl

theorem exec_csEnter (s : State) : exec .csEnter s = whenEnabled (s.MainAt 1#4) { s with im := true, ms := 2#4 } := rfl

theorem exec_load (s : State) : exec .load s = whenEnabled (s.MainAt 2#4) { s with tm := ⟨s.pt, true⟩, ms := 3#4 } := rfl

theorem exec_dec_of_zero (h : s.readTm = 0#32) :
    exec .dec s = whenEnabled (s.MainAt 3#4) { s with flt := 3#3, ms := 15#4 } :=
  congrArg (whenEnabled (s.MainAt 3#4)) (if_pos h)

theorem exec_dec_of_ne (h : s.readTm ≠ 0#32) :
    exec .dec s = whenEnabled (s.MainAt 3#4) { s with tm := ⟨s.readTm - 1#32, true⟩, ms := 4#4 } :=
  congrArg (whenEnabled (s.MainAt 3#4)) (if_neg h)

theorem exec_store (s : State) : exec .store s = whenEnabled (s.MainAt 4#4) { s with pt := s.readTm, ms := 5#4 } := rfl

theorem exec_csExit (s : State) : exec .csExit s = whenEnabled (s.MainAt 5#4) { s with im := false, ms := 6#4 } := rfl

theorem exec_toggle (s : State) : exec .toggle s =
    whenEnabled (s.MainAt 6#4) { s with out := !s.out, outPin := ⟨!s.out, true⟩, ms := 7#4 } := rfl

theorem exec_setAlarm (s : State) : exec .setAlarm s =
    whenEnabled (s.MainAt 9#4) { s with
      av := ⟨BitVec.ofNat 32 (s.per.toNat * 1000), true⟩, ar := ⟨true, true⟩, alarmWr := s.alarmWr + 1,
      tc := countAfterSetAlarm Config.setAlarmResetsCount s.tc, ms := 0#4 } := rfl

theorem exec_initTmr_of_ok (s : State) :
    exec (.initTmr true) s = whenEnabled (s.MainAt 10#4) { s with tc := 0, ms := 11#4 } := rfl

theorem exec_initAlarm (s : State) : exec .initAlarm s =
    whenEnabled (s.MainAt 11#4) { s with
      av := ⟨500000#32, true⟩, ar := ⟨true, true⟩, alarmWr := s.alarmWr + 1, ms := 12#4 } := rfl

theorem exec_initEn (s : State) : exec .initEn s = whenEnabled (s.MainAt 12#4) { s with en := true, ms := 0#4 } := rfl

theorem exec_halt (s : State) : exec .halt s = .refused .haltNeverEnabled := rfl

theorem exec_alarm (s : State) : exec .alarm s = whenEnabled s.AlarmOpen { s with ip := s.ip + 1 } := rfl

theorem exec_ustep (s : State) : exec .ustep s = whenEnabled s.UstepOpen s.tick := rfl

theorem exec_reset (s : State) : exec .reset s = .next s.powerOn := rfl

/-- A tick that fires makes one alarm pending; the count moves either way. -/
theorem State.tick_of_fires (h : s.timerNow.1 = true) : s.tick = { s with ip := s.ip + 1, tc := s.timerNow.2 } := by
  rw [State.tick, if_pos h]; rfl

theorem State.tick_of_not_fires (h : s.timerNow.1 = false) : s.tick = { s with tc := s.timerNow.2 } := by
  rw [State.tick, h]; rfl

/-- All that `DEC` can do: raise, or decrement. -/
theorem exec_dec_next (h : exec .dec s = .next t) : s.MainAt 3#4 ∧
    ((s.readTm = 0#32 ∧ t = { s with flt := 3#3, ms := 15#4 }) ∨
      (s.readTm ≠ 0#32 ∧ t = { s with tm := ⟨s.readTm - 1#32, true⟩, ms := 4#4 })) := by
  by_cases hzero : s.readTm = 0#32
  · rw [exec_dec_of_zero hzero] at h
    obtain ⟨hat, rfl⟩ := whenEnabled_next.mp h
    exact ⟨hat, .inl ⟨hzero, rfl⟩⟩
  · rw [exec_dec_of_ne hzero] at h
    obtain ⟨hat, rfl⟩ := whenEnabled_next.mp h
    exact ⟨hat, .inr ⟨hzero, rfl⟩⟩

/-- All that `I_INC` can do: raise, or increment. -/
theorem exec_iInc_next (h : exec .iInc s = .next t) : s.IsrAt 3#3 ∧
    ((s.readTi = BitVec.allOnes 32 ∧ t = { s with flt := 2#3, ms := 15#4 }) ∨
      (s.readTi ≠ BitVec.allOnes 32 ∧ t = { s with ti := ⟨s.readTi + 1#32, true⟩, is := 4#3 })) := by
  by_cases hmax : s.readTi = BitVec.allOnes 32
  · rw [exec_iInc_of_max hmax] at h
    obtain ⟨hat, rfl⟩ := whenEnabled_next.mp h
    exact ⟨hat, .inl ⟨hmax, rfl⟩⟩
  · rw [exec_iInc_of_lt hmax] at h
    obtain ⟨hat, rfl⟩ := whenEnabled_next.mp h
    exact ⟨hat, .inr ⟨hmax, rfl⟩⟩

/-- All that `INIT_TMR` can do: start the timer's count, or raise. -/
theorem exec_initTmr_next {ok : Bool} (h : exec (.initTmr ok) s = .next t) : s.MainAt 10#4 ∧
    ((ok = true ∧ t = { s with tc := 0, ms := 11#4 }) ∨ (ok = false ∧ t = { s with flt := 1#3, ms := 15#4 })) := by
  obtain ⟨hat, rfl⟩ := whenEnabled_next.mp h
  cases ok with
  | true => exact ⟨hat, .inl ⟨rfl, rfl⟩⟩
  | false => exact ⟨hat, .inr ⟨rfl, rfl⟩⟩

/-! ### When there is a next state (R14, R84) -/

theorem exec_of_enabled (h : Enabled i s) : ∃ t, exec i s = .next t := by
  cases i with
  | halt => exact h.elim
  | reset => exact ⟨_, rfl⟩
  | _ => exact ⟨_, whenEnabled_of h⟩

theorem exec_of_not_enabled (h : ¬Enabled i s) (hhalt : i ≠ .halt) : exec i s = .refused .notEnabled := by
  cases i with
  | halt => exact absurd rfl hhalt
  | reset => exact absurd trivial h
  | _ => exact whenEnabled_of_not h

theorem enabled_of_exec_next (h : exec i s = .next t) : Enabled i s := by
  by_contra hoff
  by_cases hhalt : i = .halt
  · rw [hhalt, exec_halt] at h; cases h
  · rw [exec_of_not_enabled hoff hhalt] at h; cases h

/-- Settles O9: every guard of the model is the condition of the opcode table. -/
theorem instructionStepsExactlyWhenEnabled : Obligations.InstructionStepsExactlyWhenEnabled := by
  intro i s
  refine ⟨⟨fun ⟨t, h⟩ => enabled_of_exec_next h, exec_of_enabled⟩, fun hoff => ?_⟩
  split
  case isTrue hhalt => rw [hhalt, exec_halt]
  case isFalse hhalt => exact exec_of_not_enabled hoff hhalt

/-! ### What a step of each agent needs (R14) -/

theorem Enabled.main (hagent : i.agent = .main) (h : Enabled i s) : s.flt = 0#3 ∧ s.is = 0#3 := by
  cases i with
  | halt => exact h.elim
  | iEnter | iCsEnter | iLoad | iInc | iStore | iCsExit | iRet | alarm | ustep | reset => cases hagent
  | _ =>
    obtain ⟨hflt, his, -⟩ := h
    exact ⟨hflt, his⟩

/-- A step of the ISR is its entry, with the mask clear, or one of a run in progress. -/
theorem Enabled.isr (hagent : i.agent = .isr) (h : Enabled i s) : s.flt = 0#3 ∧ (s.im = false ∨ s.is ≠ 0#3) := by
  cases i with
  | iEnter =>
    obtain ⟨hflt, -, -, him⟩ := h
    exact ⟨hflt, .inl him⟩
  | iCsEnter | iLoad | iInc | iStore | iCsExit | iRet =>
    obtain ⟨hflt, his⟩ := h
    exact ⟨hflt, .inr (by simp [his])⟩
  | _ => cases hagent

/-- Whichever tick source the unit has, its step is enabled when the timer runs (R101, R102, R201). -/
theorem enabled_tickSourceInstr (h : s.TimerRuns) : Enabled (tickSourceInstr s.timed) s := by
  obtain ⟨hen, hflt⟩ := h
  unfold tickSourceInstr
  split
  case isTrue htimed => exact ⟨hen, hflt, htimed⟩
  case isFalse htimed => exact ⟨hen, hflt, Bool.eq_false_iff.mpr htimed⟩

/-- Settles O14: MAIN's guards ask for `IS = 0`, and so does its sequencer. -/
theorem mainWaitsWhileIsrRuns : Obligations.MainWaitsWhileIsrRuns := by
  intro s his hflt hms
  refine ⟨fun i hagent => exec_of_not_enabled fun hen => his (hen.main hagent).2, fun lvl ok now => ?_⟩
  simp [runTurn, stepMain, his, hflt, hms]

/-! ### Raising (R181) -/

/-- An instruction that changes `FLT`, `RESET` apart, is one of the three that raise, at the value that makes it do so. -/
theorem exec_changes_flt (hi : i ≠ .reset) (h : exec i s = .next t) (hflt : t.flt ≠ s.flt) :
    s.flt = 0#3 ∧ ((i = .initTmr false ∧ t = { s with flt := 1#3, ms := 15#4 }) ∨
      (i = .iInc ∧ t = { s with flt := 2#3, ms := 15#4 }) ∨ (i = .dec ∧ t = { s with flt := 3#3, ms := 15#4 })) := by
  cases i with
  | initTmr ok =>
    obtain ⟨⟨h0, -⟩, ⟨-, rfl⟩ | ⟨rfl, rfl⟩⟩ := exec_initTmr_next h
    · exact absurd rfl hflt
    · exact ⟨h0, .inl ⟨rfl, rfl⟩⟩
  | iInc =>
    obtain ⟨⟨h0, -⟩, ⟨-, rfl⟩ | ⟨-, rfl⟩⟩ := exec_iInc_next h
    · exact ⟨h0, .inr (.inl ⟨rfl, rfl⟩)⟩
    · exact absurd rfl hflt
  | dec =>
    obtain ⟨⟨h0, -⟩, ⟨-, rfl⟩ | ⟨-, rfl⟩⟩ := exec_dec_next h
    · exact ⟨h0, .inr (.inr ⟨rfl, rfl⟩)⟩
    · exact absurd rfl hflt
  | dbInc lvl now => exact absurd (whenEnabled_next_keeps State.flt h (s.pressInc_flt lvl now)) hflt
  | dbDec lvl now => exact absurd (whenEnabled_next_keeps State.flt h (s.pressDec_flt lvl now)) hflt
  | ustep => exact absurd (whenEnabled_next_keeps State.flt h (by rw [State.tick_eq])) hflt
  | halt => cases h
  | reset => exact absurd rfl hi
  | _ => exact absurd (whenEnabled_next_keeps State.flt h rfl) hflt

theorem State.Faulted.stepMain (hs : s.Faulted) (lvl ok : Bool) (now : Millis) :
    Machine.stepMain lvl ok now s = .fault .halted :=
  if_pos (.inl hs)

theorem State.Faulted.stepIsr (hs : s.Faulted) : Machine.stepIsr s = .fault .halted := if_pos hs

/-- Settles O10: the raising instructions are those of `exec_changes_flt`, and every guard but `RESET`'s asks for
`FLT = 0`. -/
theorem raisingHaltsUnit : Obligations.RaisingHaltsUnit := by
  refine ⟨fun i s t hi h hflt => ?_, fun s (hs : s.Faulted) =>
    ⟨fun i t => hs.eq_reset_of_exec_next, hs.stepMain, hs.stepIsr, _, exec_reset s, rfl⟩⟩
  obtain ⟨h0, ⟨rfl, rfl⟩ | ⟨rfl, rfl⟩ | ⟨rfl, rfl⟩⟩ := exec_changes_flt hi h hflt
  · exact ⟨h0, rfl, .inl ⟨rfl, rfl⟩⟩
  · exact ⟨h0, rfl, .inr (.inl ⟨rfl, rfl⟩)⟩
  · exact ⟨h0, rfl, .inr (.inr ⟨rfl, rfl⟩)⟩

/-! ### Who writes which item (R49) -/

/-- All that the Increase step can change: the period and the latch of its button. -/
theorem State.pressInc_eq (s : State) (lvl : Bool) (now : Millis) : s.pressInc lvl now =
    { s with
      per := (s.pressInc lvl now).per, lvInc := (s.pressInc lvl now).lvInc, laInc := (s.pressInc lvl now).laInc } := by
  obtain h | h := s.pressInc_cases lvl now
  · rw [h]
  · rw [h]; rfl

/-- All that the Decrease step can change. -/
theorem State.pressDec_eq (s : State) (lvl : Bool) (now : Millis) : s.pressDec lvl now =
    { s with
      per := (s.pressDec lvl now).per, lvDec := (s.pressDec lvl now).lvDec, laDec := (s.pressDec lvl now).laDec } := by
  obtain h | h := s.pressDec_cases lvl now
  · rw [h]
  · rw [h]; rfl

/-- Settles O11: from the equation of each micro-operation one reads which items differ in its next state. -/
theorem writersOfEachItem : Obligations.WritersOfEachItem := by
  intro i s t h hreset
  cases i with
  | reset => exact absurd rfl hreset
  | halt => cases h
  | dec => obtain ⟨-, ⟨-, rfl⟩ | ⟨-, rfl⟩⟩ := exec_dec_next h <;> simp [Instr.agent]
  | iInc => obtain ⟨-, ⟨-, rfl⟩ | ⟨-, rfl⟩⟩ := exec_iInc_next h <;> simp [Instr.agent]
  | initTmr ok => obtain ⟨-, ⟨-, rfl⟩ | ⟨-, rfl⟩⟩ := exec_initTmr_next h <;> simp [Instr.agent]
  | dbInc lvl now =>
    rw [exec_dbInc, State.pressInc_eq] at h
    obtain ⟨-, rfl⟩ := whenEnabled_next.mp h
    simp [Instr.agent]
  | dbDec lvl now =>
    rw [exec_dbDec, State.pressDec_eq] at h
    obtain ⟨-, rfl⟩ := whenEnabled_next.mp h
    simp [Instr.agent]
  | ustep =>
    rw [exec_ustep, State.tick_eq] at h
    obtain ⟨-, rfl⟩ := whenEnabled_next.mp h
    simp
  | _ =>
    obtain ⟨-, rfl⟩ := whenEnabled_next.mp h
    simp [Instr.agent]

end Sys2Proof.Machine
end

section
/-! PROOF. The invariant (R245, R246): cut into four parts by the items they speak of. -/

namespace Sys2Proof.Machine

open Sys2Proof

variable {s t : State} {i : Instr}

/-! ### The four parts of the invariant, each of the items it speaks of -/

/-- Sequencers, sections and fault. -/
structure ControlInv (ms : MainCode) (is : IsrCode) (im csi : Bool) (flt : FaultBits) : Prop where
  mask_iff_section : flt = 0#3 → (im = true ↔ ms = 2#4 ∨ ms = 3#4 ∨ ms = 4#4 ∨ ms = 5#4)
  underflow_keeps_mask : flt = 3#3 → im = true ∧ ms = 15#4
  csi_iff_section : csi = true ↔ is = 2#3 ∨ is = 3#3 ∨ is = 4#3 ∨ is = 5#3
  mask_excludes_isr : im = true → is = 0#3
  sections_apart : ¬(im = true ∧ csi = true)
  codes_legal : ms ≠ 13#4 ∧ ms ≠ 14#4 ∧ is ≠ 7#3 ∧ (flt = 0#3 ∨ flt = 1#3 ∨ flt = 2#3)
  halt_iff_fault : ms = 15#4 ↔ flt ≠ 0#3

/-- The shared counter and the two temporaries. -/
structure CounterInv (ms : MainCode) (is : IsrCode) (flt : FaultBits) (en : Bool) (ip : Nat) (pt : Count)
    (tm ti : Held Count) : Prop where
  quiet_until_enabled : en = false → ip = 0 ∧ is = 0#3 ∧ pt = 0#32
  tick_seen : (ms = 1#4 ∨ ms = 2#4) → 1 ≤ pt.toNat
  tm_written : (ms = 3#4 ∨ ms = 4#4) ∧ flt = 0#3 → tm.written = true
  tm_at_dec : ms = 3#4 → tm.value = pt ∧ 1 ≤ pt.toNat
  tm_at_store : ms = 4#4 → tm.value.toNat + 1 = pt.toNat
  ti_at_inc : is = 3#3 → ti.written = true ∧ ti.value = pt
  ti_at_store : is = 4#3 → ti.written = true ∧ ti.value.toNat = pt.toNat + 1

/-- Startup, the half-period and the alarm value. -/
structure TimerInv (ms : MainCode) (flt : FaultBits) (en : Bool) (ar : Held Bool) (av : Held AlarmTicks) (per : Period) :
    Prop where
  period_in_range : 100 ≤ per.toNat ∧ per.toNat ≤ 2000
  period_multiple : 50 ∣ per.toNat
  disabled_at_startup : (ms = 10#4 ∨ ms = 11#4 ∨ ms = 12#4) → en = false
  enabled_after_startup : flt = 0#3 → ¬(ms = 10#4 ∨ ms = 11#4 ∨ ms = 12#4) → en = true
  alarm_is_period : flt = 0#3 → ¬(ms = 8#4 ∨ ms = 9#4 ∨ ms = 10#4 ∨ ms = 11#4) →
    av = ⟨BitVec.ofNat 32 (per.toNat * 1000), true⟩ ∧ ar = ⟨true, true⟩
  period_default_at_startup : (ms = 10#4 ∨ ms = 11#4) → per = 500#16
  alarm_written : en = true → ar = ⟨true, true⟩
  alarm_legal : av.written = true → ∃ p, 100 ≤ p ∧ p ≤ 2000 ∧ 50 ∣ p ∧ av.value = BitVec.ofNat 32 (p * 1000)
  en_has_alarm : en = true → av.written = true

/-- The latches, the pin and the timer's count. -/
structure PortInv (lvInc : Bool) (laInc : Held Millis) (lvDec : Bool) (laDec : Held Millis) (out : Bool)
    (outPin : Held Bool) (tc : Nat) (timed : Bool) : Prop where
  inc_press_timed : lvInc = true → laInc.written = true
  dec_press_timed : lvDec = true → laDec.written = true
  pin_follows : outPin.written = true → outPin.value = out
  count_in_width : tc < 2 ^ Config.tcWidth
  untimed_has_no_count : timed = false → tc = 0

theorem Inv.control (h : Inv s) : ControlInv s.ms s.is s.im s.csi s.flt where
  __ := h.items

theorem Inv.counter (h : Inv s) : CounterInv s.ms s.is s.flt s.en s.ip s.pt s.tm s.ti where
  __ := h.items
  __ := h

theorem Inv.timer (h : Inv s) : TimerInv s.ms s.flt s.en s.ar s.av s.per where
  __ := h.items
  __ := h

theorem Inv.port (h : Inv s) : PortInv s.lvInc s.laInc s.lvDec s.laDec s.out s.outPin s.tc s.timed where
  __ := h.items
  __ := h

theorem Inv.of_parts (hcontrol : ControlInv s.ms s.is s.im s.csi s.flt)
    (hcounter : CounterInv s.ms s.is s.flt s.en s.ip s.pt s.tm s.ti) (htimer : TimerInv s.ms s.flt s.en s.ar s.av s.per)
    (hport : PortInv s.lvInc s.laInc s.lvDec s.laDec s.out s.outPin s.tc s.timed) : Inv s where
  items := { hcontrol, hcounter, htimer, hport with }
  __ := hcounter
  __ := htimer
  __ := hport

/-! ### Sequencers, sections and fault -/

/-- The codes of MAIN at which the mask is set (R245 (1)). -/
@[simp] abbrev InMainSection (ms : MainCode) : Prop := ms = 2#4 ∨ ms = 3#4 ∨ ms = 4#4 ∨ ms = 5#4

/-- The codes of the ISR at which `CSI` is set (R245 (3)). -/
@[simp] abbrev InIsrSection (is : IsrCode) : Prop := is = 2#3 ∨ is = 3#3 ∨ is = 4#3 ∨ is = 5#3

section
variable {ms ms' : MainCode} {is is' : IsrCode} {im im' csi csi' : Bool} {flt flt' : FaultBits}

/-- MAIN moves on without entering or leaving its section. -/
theorem ControlInv.move_main (h : ControlInv ms is im csi flt) (hflt : flt = 0#3)
    (hsection : InMainSection ms ↔ InMainSection ms') (hlegal : ms' ≠ 13#4 ∧ ms' ≠ 14#4 ∧ ms' ≠ 15#4) :
    ControlInv ms' is im csi flt where
  __ := h
  mask_iff_section := fun _ => (h.mask_iff_section hflt).trans hsection
  underflow_keeps_mask := by simp [hflt]
  codes_legal := ⟨hlegal.1, hlegal.2.1, h.codes_legal.2.2⟩
  halt_iff_fault := by simp [hflt, hlegal.2.2]

/-- MAIN enters or leaves its section, which it does in main context. -/
theorem ControlInv.set_mask (h : ControlInv ms is im csi flt) (hflt : flt = 0#3) (his : is = 0#3)
    (hsection : im' = true ↔ InMainSection ms') (hlegal : ms' ≠ 13#4 ∧ ms' ≠ 14#4 ∧ ms' ≠ 15#4) :
    ControlInv ms' is im' csi flt where
  __ := h
  mask_iff_section := fun _ => hsection
  underflow_keeps_mask := by simp [hflt]
  mask_excludes_isr := fun _ => his
  sections_apart := fun ⟨_, hcsi⟩ => by simpa [his] using h.csi_iff_section.mp hcsi
  codes_legal := ⟨hlegal.1, hlegal.2.1, h.codes_legal.2.2⟩
  halt_iff_fault := by simp [hflt, hlegal.2.2]

/-- The ISR moves on with the mask clear, `CSI` set to what its new code asks for. -/
theorem ControlInv.move_isr (h : ControlInv ms is im csi flt) (him : im = false)
    (hsection : csi' = true ↔ InIsrSection is') (hlegal : is' ≠ 7#3) : ControlInv ms is' im csi' flt where
  __ := h
  csi_iff_section := hsection
  mask_excludes_isr := by simp [him]
  sections_apart := by simp [him]
  codes_legal := ⟨h.codes_legal.1, h.codes_legal.2.1, hlegal, h.codes_legal.2.2.2⟩

/-- A fault other than the underflow, which alone says something of the mask. -/
theorem ControlInv.raise (h : ControlInv ms is im csi flt) (hflt : flt' = 1#3 ∨ flt' = 2#3) :
    ControlInv 15#4 is im csi flt' where
  __ := h
  mask_iff_section := by obtain rfl | rfl := hflt <;> simp
  underflow_keeps_mask := by obtain rfl | rfl := hflt <;> simp
  codes_legal := ⟨by simp, by simp, h.codes_legal.2.2.1, .inr hflt⟩
  halt_iff_fault := by obtain rfl | rfl := hflt <;> simp

theorem ControlInv.startup : ControlInv 10#4 0#3 false false 0#3 := by
  constructor <;> simp

/-- A run of the ISR in progress has the mask clear. -/
theorem ControlInv.im_eq_false (h : ControlInv ms is im csi flt) (his : is ≠ 0#3) : im = false :=
  Bool.eq_false_iff.mpr fun him => his (h.mask_excludes_isr him)

end

/-- No run comes to the underflow: at `DEC` the temporary holds the counter, which is at least 1 (R144). -/
theorem StateInvariants.readTm_ne_zero (hs : StateInvariants s) (h : s.MainAt 3#4) : s.readTm ≠ 0#32 := by
  obtain ⟨hflt, -, hms⟩ := h
  obtain ⟨htm, hpt⟩ := hs.tm_at_dec hms
  rw [s.readTm_of_written (hs.tm_written ⟨.inl hms, hflt⟩), htm]
  rintro hzero
  simp [hzero] at hpt

theorem exec_keeps_control (hs : Inv s) (h : exec i s = .next t) : ControlInv t.ms t.is t.im t.csi t.flt := by
  have hcontrol := hs.control
  cases i with
  | poll =>
    obtain ⟨⟨hflt, -, hms⟩, rfl⟩ := whenEnabled_next.mp h
    rw [State.setMs_ms]
    split
    · exact hcontrol.move_main hflt (by simp [hms]) (by simp)
    · exact hcontrol.move_main hflt (by simp [hms]) (by simp)
  | load | store | toggle | setAlarm | initAlarm | initEn =>
    obtain ⟨⟨hflt, -, hms⟩, rfl⟩ := whenEnabled_next.mp h
    exact hcontrol.move_main hflt (by simp [hms]) (by simp)
  | csEnter | csExit =>
    obtain ⟨⟨hflt, his, -⟩, rfl⟩ := whenEnabled_next.mp h
    exact hcontrol.set_mask hflt his (by simp) (by simp)
  | dec =>
    obtain ⟨hat, ⟨hzero, -⟩ | ⟨-, rfl⟩⟩ := exec_dec_next h
    · exact absurd hzero (hs.items.readTm_ne_zero hat)
    · obtain ⟨hflt, -, hms⟩ := hat
      exact hcontrol.move_main hflt (by simp [hms]) (by simp)
  | dbInc lvl now =>
    rw [exec_dbInc, State.pressInc_eq] at h
    obtain ⟨⟨hflt, -, hms⟩, rfl⟩ := whenEnabled_next.mp h
    exact hcontrol.move_main hflt (by simp [hms]) (by simp)
  | dbDec lvl now =>
    rw [exec_dbDec, State.pressDec_eq] at h
    obtain ⟨⟨hflt, -, hms⟩, rfl⟩ := whenEnabled_next.mp h
    exact hcontrol.move_main hflt (by simp [hms]) (by simp)
  | initTmr ok =>
    obtain ⟨⟨hflt, -, hms⟩, ⟨-, rfl⟩ | ⟨-, rfl⟩⟩ := exec_initTmr_next h
    · exact hcontrol.move_main hflt (by simp [hms]) (by simp)
    · exact hcontrol.raise (.inl rfl)
  | halt => cases h
  | iEnter =>
    obtain ⟨⟨-, his, -, him⟩, rfl⟩ := whenEnabled_next.mp h
    exact hcontrol.move_isr him (hcontrol.csi_iff_section.trans (by simp [his])) (by simp)
  | iCsEnter | iCsExit =>
    obtain ⟨⟨-, his⟩, rfl⟩ := whenEnabled_next.mp h
    exact hcontrol.move_isr (hcontrol.im_eq_false (by simp [his])) (by simp) (by simp)
  | iLoad | iStore | iRet =>
    obtain ⟨⟨-, his⟩, rfl⟩ := whenEnabled_next.mp h
    exact hcontrol.move_isr (hcontrol.im_eq_false (by simp [his])) (hcontrol.csi_iff_section.trans (by simp [his]))
      (by simp)
  | iInc =>
    obtain ⟨⟨-, his⟩, ⟨-, rfl⟩ | ⟨-, rfl⟩⟩ := exec_iInc_next h
    · exact hcontrol.raise (.inr rfl)
    · exact hcontrol.move_isr (hcontrol.im_eq_false (by simp [his])) (hcontrol.csi_iff_section.trans (by simp [his]))
        (by simp)
  | alarm =>
    obtain ⟨-, rfl⟩ := whenEnabled_next.mp h
    exact hcontrol
  | ustep =>
    rw [exec_ustep, State.tick_eq] at h
    obtain ⟨-, rfl⟩ := whenEnabled_next.mp h
    exact hcontrol
  | reset =>
    cases h
    exact .startup

/-! ### The counter and the temporaries -/

section
variable {ms ms' : MainCode} {is : IsrCode} {flt flt' : FaultBits} {en : Bool} {ip ip' : Nat} {pt : Count}
  {tm tm' ti : Held Count}

/-- At the codes of MAIN other than 1 to 4 nothing is said of `TM`, nor that the counter is above 0. -/
theorem CounterInv.move_main (h : CounterInv ms is flt en ip pt tm ti)
    (hms : ms' ≠ 1#4 ∧ ms' ≠ 2#4 ∧ ms' ≠ 3#4 ∧ ms' ≠ 4#4) : CounterInv ms' is flt' en ip pt tm' ti where
  __ := h
  tick_seen := by simp [hms]
  tm_written := by simp [hms]
  tm_at_dec := by simp [hms]
  tm_at_store := by simp [hms]

/-- With the timer enabled alarms come in. -/
theorem CounterInv.ring (h : CounterInv ms is flt en ip pt tm ti) (hen : en = true) :
    CounterInv ms is flt en ip' pt tm ti where
  __ := h
  quiet_until_enabled := by simp [hen]

/-- A run of the ISR is in progress, or an alarm pending, only after startup. -/
theorem CounterInv.enabled_of_isr (h : CounterInv ms is flt en ip pt tm ti) (his : is ≠ 0#3) : en = true :=
  Bool.eq_true_of_not_eq_false fun hen => his (h.quiet_until_enabled hen).2.1

theorem CounterInv.enabled_of_pending (h : CounterInv ms is flt en ip pt tm ti) (hip : 0 < ip) : en = true :=
  Bool.eq_true_of_not_eq_false fun hen => by simp [(h.quiet_until_enabled hen).1] at hip

theorem CounterInv.enabled_of_count (h : CounterInv ms is flt en ip pt tm ti) (hpt : 1 ≤ pt.toNat) : en = true :=
  Bool.eq_true_of_not_eq_false fun hen => by simp [(h.quiet_until_enabled hen).2.2] at hpt

/-- The ISR moves on to a code at which nothing is said of `TI`. -/
theorem CounterInv.move_isr (h : CounterInv ms is flt en ip pt tm ti) (hen : en = true) {is' : IsrCode}
    (his : is' ≠ 3#3 ∧ is' ≠ 4#3) : CounterInv ms is' flt en ip' pt tm ti where
  __ := h
  quiet_until_enabled := by simp [hen]
  ti_at_inc := by simp [his]
  ti_at_store := by simp [his]

theorem CounterInv.startup : CounterInv 10#4 0#3 0#3 false 0 0#32 tm ti := by
  constructor <;> simp

end

/-- Below the largest value an increment does not wrap (R123). -/
theorem count_succ_toNat {v : Count} (h : v ≠ BitVec.allOnes 32) : (v + 1#32).toNat = v.toNat + 1 := by
  have hmax : v ≠ 4294967295#32 := h
  bv_omega

/-- `STORE` writes the counter less 1 (R70). -/
theorem StateInvariants.readTm_store (hs : StateInvariants s) (h : s.MainAt 4#4) : s.readTm.toNat + 1 = s.pt.toNat := by
  obtain ⟨hflt, -, hms⟩ := h
  rw [s.readTm_of_written (hs.tm_written ⟨.inr hms, hflt⟩)]
  exact hs.tm_at_store hms

/-- `I_STORE` writes the counter plus 1 (R70). -/
theorem StateInvariants.readTi_store (hs : StateInvariants s) (h : s.is = 4#3) : s.readTi.toNat = s.pt.toNat + 1 := by
  obtain ⟨hti, hval⟩ := hs.ti_at_store h
  rw [s.readTi_of_written hti, hval]

/-- Where the mask is clear MAIN is outside its section. -/
theorem Inv.main_outside (hs : Inv s) (hflt : s.flt = 0#3) (him : s.im = false) : ¬InMainSection s.ms := by
  intro hsection
  have hset := (hs.items.mask_iff_section hflt).mpr hsection
  simp [him] at hset

theorem exec_keeps_counter (hs : Inv s) (h : exec i s = .next t) :
    CounterInv t.ms t.is t.flt t.en t.ip t.pt t.tm t.ti := by
  have hcounter := hs.counter
  cases i with
  | poll =>
    rw [exec_poll] at h
    obtain ⟨-, rfl⟩ := whenEnabled_next.mp h
    dsimp only
    split
    · exact hcounter.move_main (by simp)
    case isFalse hne =>
      have hpos : 1 ≤ s.pt.toNat := by bv_omega
      exact { hcounter with
        tick_seen := fun _ => hpos, tm_written := by simp, tm_at_dec := by simp, tm_at_store := by simp }
  | csEnter =>
    obtain ⟨⟨-, -, hms⟩, rfl⟩ := whenEnabled_next.mp h
    exact { hcounter with
      tick_seen := fun _ => hcounter.tick_seen (.inl hms), tm_written := by simp, tm_at_dec := by simp,
      tm_at_store := by simp }
  | load =>
    obtain ⟨⟨-, -, hms⟩, rfl⟩ := whenEnabled_next.mp h
    exact { hcounter with
      tick_seen := by simp, tm_written := fun _ => rfl, tm_at_dec := fun _ => ⟨rfl, hcounter.tick_seen (.inr hms)⟩,
      tm_at_store := by simp }
  | dec =>
    obtain ⟨⟨hflt, -, hms⟩, ⟨-, rfl⟩ | ⟨-, rfl⟩⟩ := exec_dec_next h
    · exact hcounter.move_main (by simp)
    · obtain ⟨htm, hpos⟩ := hcounter.tm_at_dec hms
      have hread : s.readTm = s.pt := (s.readTm_of_written (hcounter.tm_written ⟨.inl hms, hflt⟩)).trans htm
      exact { hcounter with
        tick_seen := by simp, tm_written := fun _ => rfl, tm_at_dec := by simp,
        tm_at_store := fun _ => by rw [hread]; bv_omega }
  | store =>
    obtain ⟨⟨hflt, his, hms⟩, rfl⟩ := whenEnabled_next.mp h
    have hen : s.en = true := hcounter.enabled_of_count (by have := hcounter.tm_at_store hms; omega)
    constructor <;> simp [his, hen]
  | csExit | toggle | setAlarm | initAlarm =>
    obtain ⟨-, rfl⟩ := whenEnabled_next.mp h
    exact hcounter.move_main (by simp)
  | dbInc lvl now =>
    rw [exec_dbInc, State.pressInc_eq] at h
    obtain ⟨-, rfl⟩ := whenEnabled_next.mp h
    exact hcounter.move_main (by simp)
  | dbDec lvl now =>
    rw [exec_dbDec, State.pressDec_eq] at h
    obtain ⟨-, rfl⟩ := whenEnabled_next.mp h
    exact hcounter.move_main (by simp)
  | initTmr ok =>
    obtain ⟨-, ⟨-, rfl⟩ | ⟨-, rfl⟩⟩ := exec_initTmr_next h
    · exact hcounter.move_main (by simp)
    · exact hcounter.move_main (by simp)
  | initEn =>
    obtain ⟨-, rfl⟩ := whenEnabled_next.mp h
    exact { hcounter.move_main (by simp) with quiet_until_enabled := by simp }
  | halt => cases h
  | iEnter =>
    obtain ⟨⟨-, -, hip, -⟩, rfl⟩ := whenEnabled_next.mp h
    exact hcounter.move_isr (hcounter.enabled_of_pending hip) (by simp)
  | iCsEnter | iCsExit | iRet =>
    obtain ⟨⟨-, his⟩, rfl⟩ := whenEnabled_next.mp h
    exact hcounter.move_isr (hcounter.enabled_of_isr (by simp [his])) (by simp)
  | iLoad =>
    obtain ⟨⟨-, his⟩, rfl⟩ := whenEnabled_next.mp h
    have hen : s.en = true := hcounter.enabled_of_isr (by simp [his])
    exact { hcounter with
      quiet_until_enabled := by simp [hen], ti_at_inc := fun _ => ⟨rfl, rfl⟩, ti_at_store := by simp }
  | iInc =>
    obtain ⟨⟨-, his⟩, ⟨-, rfl⟩ | ⟨hmax, rfl⟩⟩ := exec_iInc_next h
    · exact hcounter.move_main (by simp)
    · have hen : s.en = true := hcounter.enabled_of_isr (by simp [his])
      obtain ⟨hti, hval⟩ := hcounter.ti_at_inc his
      have hread : s.readTi = s.pt := (s.readTi_of_written hti).trans hval
      rw [hread] at hmax
      exact { hcounter with
        quiet_until_enabled := by simp [hen], ti_at_inc := by simp,
        ti_at_store := fun _ => ⟨rfl, by rw [hread, count_succ_toNat hmax]⟩ }
  | iStore =>
    obtain ⟨⟨hflt, his⟩, rfl⟩ := whenEnabled_next.mp h
    have hen : s.en = true := hcounter.enabled_of_isr (by simp [his])
    have hout := hs.main_outside hflt (hs.control.im_eq_false (by simp [his]))
    have hdec : s.ms ≠ 3#4 := fun hms => hout (.inr (.inl hms))
    have hstore : s.ms ≠ 4#4 := fun hms => hout (.inr (.inr (.inl hms)))
    have hpos : 1 ≤ s.readTi.toNat := by
      rw [hs.items.readTi_store his]
      omega
    exact {
      quiet_until_enabled := by simp [hen], tick_seen := fun _ => hpos, tm_written := by simp [hdec, hstore],
      tm_at_dec := by simp [hdec], tm_at_store := by simp [hstore], ti_at_inc := by simp, ti_at_store := by simp }
  | alarm =>
    obtain ⟨⟨hen, -⟩, rfl⟩ := whenEnabled_next.mp h
    exact hcounter.ring hen
  | ustep =>
    rw [exec_ustep, State.tick_eq] at h
    obtain ⟨⟨hen, -⟩, rfl⟩ := whenEnabled_next.mp h
    exact hcounter.ring hen
  | reset =>
    cases h
    exact .startup

/-! ### Startup, the half-period and the alarm value -/

/-- A half-period of R167: in range, and a multiple of the step. -/
abbrev LegalPeriod (per : Nat) : Prop := 100 ≤ per ∧ per ≤ 2000 ∧ 50 ∣ per

theorem LegalPeriod.shorten {per : Period} (h : LegalPeriod per.toNat) :
    LegalPeriod (if per.toNat < 150 then 100#16 else per - 50#16).toNat := by
  obtain ⟨hlow, hhigh, hstep⟩ := h
  split
  case isTrue => decide
  case isFalse hfloor =>
    have hsub : (per - 50#16).toNat = per.toNat - 50 := by bv_omega
    rw [hsub]
    exact ⟨by omega, by omega, by omega⟩

theorem LegalPeriod.lengthen {per : Period} (h : LegalPeriod per.toNat) :
    LegalPeriod (if 1950 < per.toNat then 2000#16 else per + 50#16).toNat := by
  obtain ⟨hlow, hhigh, hstep⟩ := h
  split
  case isTrue => decide
  case isFalse hceil =>
    have hadd : (per + 50#16).toNat = per.toNat + 50 := by bv_omega
    rw [hadd]
    exact ⟨by omega, by omega, by omega⟩

theorem LegalPeriod.pressInc (h : LegalPeriod s.per.toNat) (lvl : Bool) (now : Millis) :
    LegalPeriod (s.pressInc lvl now).per.toNat := by
  cases hacc : accepts Config.params s.lvInc s.readLaInc lvl now with
  | true => rw [State.pressInc_of_accepts hacc]; exact h.shorten
  | false => rw [State.pressInc_of_rejects hacc]; exact h

theorem LegalPeriod.pressDec (h : LegalPeriod s.per.toNat) (lvl : Bool) (now : Millis) :
    LegalPeriod (s.pressDec lvl now).per.toNat := by
  cases hacc : accepts Config.params s.lvDec s.readLaDec lvl now with
  | true => rw [State.pressDec_of_accepts hacc]; exact h.lengthen
  | false => rw [State.pressDec_of_rejects hacc]; exact h

section
variable {ms ms' : MainCode} {flt flt' : FaultBits} {en : Bool} {ar : Held Bool} {av : Held AlarmTicks} {per per' : Period}

theorem TimerInv.legal (h : TimerInv ms flt en ar av per) : LegalPeriod per.toNat :=
  ⟨h.period_in_range.1, h.period_in_range.2, h.period_multiple⟩

/-- After startup the timer is enabled. -/
theorem TimerInv.enabled (h : TimerInv ms flt en ar av per) (hflt : flt = 0#3)
    (hms : ms ≠ 10#4 ∧ ms ≠ 11#4 ∧ ms ≠ 12#4) : en = true :=
  h.enabled_after_startup hflt (by simp [hms])

/-- MAIN moves on after startup, up to the first button: the alarm value is still that of the half-period. -/
theorem TimerInv.move_main (h : TimerInv ms flt en ar av per) (hflt : flt = 0#3)
    (hms : ms ≠ 8#4 ∧ ms ≠ 9#4 ∧ ms ≠ 10#4 ∧ ms ≠ 11#4 ∧ ms ≠ 12#4) (hms' : ms' ≠ 10#4 ∧ ms' ≠ 11#4 ∧ ms' ≠ 12#4) :
    TimerInv ms' flt en ar av per where
  __ := h
  disabled_at_startup := by simp [hms']
  enabled_after_startup := fun _ _ => h.enabled hflt (by simp [hms])
  alarm_is_period := fun _ _ => h.alarm_is_period hflt (by simp [hms])
  period_default_at_startup := by simp [hms']

/-- A press: until `SET_ALARM` nothing is said of the alarm value but that it is a legal one. -/
theorem TimerInv.press (h : TimerInv ms flt en ar av per) (hflt : flt = 0#3)
    (hms : ms ≠ 10#4 ∧ ms ≠ 11#4 ∧ ms ≠ 12#4) (hms' : ms' = 8#4 ∨ ms' = 9#4) (hper : LegalPeriod per'.toNat) :
    TimerInv ms' flt en ar av per' where
  __ := h
  period_in_range := ⟨hper.1, hper.2.1⟩
  period_multiple := hper.2.2
  disabled_at_startup := by obtain rfl | rfl := hms' <;> simp
  enabled_after_startup := fun _ _ => h.enabled hflt hms
  alarm_is_period := by obtain rfl | rfl := hms' <;> simp
  period_default_at_startup := by obtain rfl | rfl := hms' <;> simp

/-- `SET_ALARM` programs the half-period. -/
theorem TimerInv.programmed (h : TimerInv ms flt en ar av per) (hflt : flt = 0#3)
    (hms : ms ≠ 10#4 ∧ ms ≠ 11#4 ∧ ms ≠ 12#4) :
    TimerInv 0#4 flt en ⟨true, true⟩ ⟨BitVec.ofNat 32 (per.toNat * 1000), true⟩ per where
  __ := h
  disabled_at_startup := by simp
  enabled_after_startup := fun _ _ => h.enabled hflt hms
  alarm_is_period := fun _ _ => ⟨rfl, rfl⟩
  period_default_at_startup := by simp
  alarm_written := fun _ => rfl
  alarm_legal := fun _ => ⟨per.toNat, h.legal.1, h.legal.2.1, h.legal.2.2, rfl⟩
  en_has_alarm := fun _ => rfl

/-- A fault leaves the items as they are and ends what is said of an unfaulted unit. -/
theorem TimerInv.raise (h : TimerInv ms flt en ar av per) (hflt : flt' ≠ 0#3) : TimerInv 15#4 flt' en ar av per where
  __ := h
  disabled_at_startup := by simp
  enabled_after_startup := by simp [hflt]
  alarm_is_period := by simp [hflt]
  period_default_at_startup := by simp

theorem TimerInv.startup (hav : av.written = false) : TimerInv 10#4 0#3 false ar av 500#16 := by
  constructor <;> simp [hav]

end

theorem exec_keeps_timer (hs : Inv s) (h : exec i s = .next t) : TimerInv t.ms t.flt t.en t.ar t.av t.per := by
  have htimer := hs.timer
  cases i with
  | poll =>
    obtain ⟨⟨hflt, -, hms⟩, rfl⟩ := whenEnabled_next.mp h
    rw [State.setMs_ms]
    split
    · exact htimer.move_main hflt (by simp [hms]) (by simp)
    · exact htimer.move_main hflt (by simp [hms]) (by simp)
  | csEnter | load | store | csExit | toggle =>
    obtain ⟨⟨hflt, -, hms⟩, rfl⟩ := whenEnabled_next.mp h
    exact htimer.move_main hflt (by simp [hms]) (by simp)
  | dec =>
    obtain ⟨⟨hflt, -, hms⟩, ⟨-, rfl⟩ | ⟨-, rfl⟩⟩ := exec_dec_next h
    · exact htimer.raise (by simp)
    · exact htimer.move_main hflt (by simp [hms]) (by simp)
  | dbInc lvl now =>
    rw [exec_dbInc, State.pressInc_eq] at h
    obtain ⟨⟨hflt, -, hms⟩, rfl⟩ := whenEnabled_next.mp h
    exact htimer.press hflt (by simp [hms]) (.inl rfl) (htimer.legal.pressInc lvl now)
  | dbDec lvl now =>
    rw [exec_dbDec, State.pressDec_eq] at h
    obtain ⟨⟨hflt, -, hms⟩, rfl⟩ := whenEnabled_next.mp h
    exact htimer.press hflt (by simp [hms]) (.inr rfl) (htimer.legal.pressDec lvl now)
  | setAlarm =>
    obtain ⟨⟨hflt, -, hms⟩, rfl⟩ := whenEnabled_next.mp h
    exact htimer.programmed hflt (by simp [hms])
  | initTmr ok =>
    obtain ⟨⟨-, -, hms⟩, ⟨-, rfl⟩ | ⟨-, rfl⟩⟩ := exec_initTmr_next h
    · have hen := htimer.disabled_at_startup (.inl hms)
      exact { htimer with
        disabled_at_startup := fun _ => hen, enabled_after_startup := by simp, alarm_is_period := by simp,
        period_default_at_startup := fun _ => htimer.period_default_at_startup (.inl hms) }
    · exact htimer.raise (by simp)
  | initAlarm =>
    rw [exec_initAlarm] at h
    obtain ⟨⟨hflt, -, hms⟩, rfl⟩ := whenEnabled_next.mp h
    have hen := htimer.disabled_at_startup (.inr (.inl hms))
    have hper := htimer.period_default_at_startup (.inr hms)
    exact { htimer with
      disabled_at_startup := fun _ => hen, enabled_after_startup := by simp,
      alarm_is_period := fun _ _ => ⟨by rw [hper]; rfl, rfl⟩, period_default_at_startup := by simp,
      alarm_written := fun _ => rfl, alarm_legal := fun _ => ⟨500, by decide, by decide, by decide, rfl⟩,
      en_has_alarm := fun _ => rfl }
  | initEn =>
    obtain ⟨⟨hflt, -, hms⟩, rfl⟩ := whenEnabled_next.mp h
    obtain ⟨hav, har⟩ := htimer.alarm_is_period hflt (by simp [hms])
    exact { htimer with
      disabled_at_startup := by simp, enabled_after_startup := fun _ _ => rfl,
      alarm_is_period := fun _ _ => ⟨hav, har⟩, period_default_at_startup := by simp, alarm_written := fun _ => har,
      en_has_alarm := fun _ => congrArg Held.written hav }
  | halt => cases h
  | iInc =>
    obtain ⟨-, ⟨-, rfl⟩ | ⟨-, rfl⟩⟩ := exec_iInc_next h
    · exact htimer.raise (by simp)
    · exact htimer
  | ustep =>
    rw [exec_ustep, State.tick_eq] at h
    obtain ⟨-, rfl⟩ := whenEnabled_next.mp h
    exact htimer
  | reset =>
    cases h
    exact .startup rfl
  | iEnter | iCsEnter | iLoad | iStore | iCsExit | iRet | alarm =>
    obtain ⟨-, rfl⟩ := whenEnabled_next.mp h
    exact htimer

/-! ### The latches, the pin and the timer's count -/

/-- The Increase step latches a press together with its time. -/
theorem State.pressInc_timed (h : s.lvInc = true → s.laInc.written = true) (lvl : Bool) (now : Millis) :
    (s.pressInc lvl now).lvInc = true → (s.pressInc lvl now).laInc.written = true := by
  obtain hp | hp := s.pressInc_cases lvl now
  · rwa [hp]
  · simp [hp]

theorem State.pressDec_timed (h : s.lvDec = true → s.laDec.written = true) (lvl : Bool) (now : Millis) :
    (s.pressDec lvl now).lvDec = true → (s.pressDec lvl now).laDec.written = true := by
  obtain hp | hp := s.pressDec_cases lvl now
  · rwa [hp]
  · simp [hp]

theorem exec_keeps_port (hs : Inv s) (h : exec i s = .next t) :
    PortInv t.lvInc t.laInc t.lvDec t.laDec t.out t.outPin t.tc t.timed := by
  have hport := hs.port
  cases i with
  | toggle =>
    obtain ⟨-, rfl⟩ := whenEnabled_next.mp h
    exact { hport with pin_follows := fun _ => rfl }
  | dbInc lvl now =>
    rw [exec_dbInc, State.pressInc_eq] at h
    obtain ⟨-, rfl⟩ := whenEnabled_next.mp h
    exact { hport with inc_press_timed := s.pressInc_timed hport.inc_press_timed lvl now }
  | dbDec lvl now =>
    rw [exec_dbDec, State.pressDec_eq] at h
    obtain ⟨-, rfl⟩ := whenEnabled_next.mp h
    exact { hport with dec_press_timed := s.pressDec_timed hport.dec_press_timed lvl now }
  | setAlarm =>
    rw [exec_setAlarm, countAfterSetAlarm_cases] at h
    obtain ⟨-, rfl⟩ := whenEnabled_next.mp h
    dsimp only
    split
    · exact { hport with count_in_width := Nat.two_pow_pos _, untimed_has_no_count := fun _ => rfl }
    · exact hport
  | initTmr ok =>
    obtain ⟨-, ⟨-, rfl⟩ | ⟨-, rfl⟩⟩ := exec_initTmr_next h
    · exact { hport with count_in_width := Nat.two_pow_pos _, untimed_has_no_count := fun _ => rfl }
    · exact hport
  | dec => obtain ⟨-, ⟨-, rfl⟩ | ⟨-, rfl⟩⟩ := exec_dec_next h <;> exact hport
  | iInc => obtain ⟨-, ⟨-, rfl⟩ | ⟨-, rfl⟩⟩ := exec_iInc_next h <;> exact hport
  | halt => cases h
  | ustep =>
    rw [exec_ustep, State.tick_eq] at h
    obtain ⟨⟨-, -, htimed⟩, rfl⟩ := whenEnabled_next.mp h
    exact { hport with
      count_in_width := timerTick_lt Config.alarmCompare Config.tcWidth s.readAv.toNat s.readAr s.tc,
      untimed_has_no_count := by simp [htimed] }
  | reset =>
    cases h
    exact ⟨by simp, by simp, by simp, Nat.two_pow_pos _, fun _ => rfl⟩
  | _ =>
    obtain ⟨-, rfl⟩ := whenEnabled_next.mp h
    exact hport

/-! ### Every step and every run keeps it -/

theorem exec_keeps_inv (hs : Inv s) (h : exec i s = .next t) : Inv t :=
  .of_parts (exec_keeps_control hs h) (exec_keeps_counter hs h) (exec_keeps_timer hs h) (exec_keeps_port hs h)

/-- The invariant says nothing of the model's own `trace` and `draws`. -/
theorem Inv.fetched (hs : Inv s) (ts : List Turn) (n : Nat) : Inv { s with trace := ts, draws := n } :=
  .of_parts hs.control hs.counter hs.timer hs.port

/-- No sequencer raises ILLEGAL_STATE, since the codes are legal. -/
theorem runTurn_keeps_inv {u : Turn} (hs : Inv s) (h : runTurn u s = .next t) : Inv t := by
  obtain ⟨i, hexec⟩ | ⟨-, -, hreserved⟩ := runTurn_next h
  · exact exec_keeps_inv hs hexec
  · obtain ⟨h13, h14, h7, -⟩ := hs.items.codes_legal
    obtain hms | hms | his := hreserved
    · exact absurd hms h13
    · exact absurd hms h14
    · exact absurd his h7

/-- Settles O54: a step is a turn in the fetched state, and each of the four parts is kept by every instruction. -/
theorem stepKeepsInvariant : Obligations.StepKeepsInvariant :=
  fun s _ hs h => runTurn_keeps_inv (hs.fetched s.trace.tail (s.draws + 1)) h

theorem State.resetWith_inv (timed : Bool) : Inv (State.resetWith timed) :=
  .of_parts .startup .startup (.startup rfl) ⟨by simp, by simp, by simp, Nat.two_pow_pos _, fun _ => rfl⟩

/-- Settles O53: the part of each item at startup. -/
theorem invariantHoldsAtReset : Obligations.InvariantHoldsAtReset := ⟨State.resetWith_inv false, State.resetWith_inv⟩

theorem Reachable.inv (hs : Reachable s) : Inv s :=
  hs.keeps State.resetWith_inv (fun _ ts n h => h.fetched ts n) (fun _ _ _ => runTurn_keeps_inv)

/-- Settles O55: the ten items are the first field of the invariant. -/
theorem reachableStateInvariants : Obligations.ReachableStateInvariants := fun _ hs => hs.inv.items

/-- A half-period of the register in microseconds fits the alarm register (R107). -/
theorem alarmTicks_toNat {p : Nat} (h : p ≤ 65535) : (BitVec.ofNat 32 (p * 1000)).toNat = p * 1000 := by
  rw [BitVec.toNat_ofNat, Nat.mod_eq_of_lt (by omega)]

/-- Settles O56: at `POLL` the unit is unfaulted, since `MS` is not 15, and past `SET_ALARM`. -/
theorem timerProgrammedAtPoll : Obligations.TimerProgrammedAtPoll := by
  intro s hs hms _
  have hinv := hs.inv
  have hflt : s.flt = 0#3 := by
    by_contra hne
    simp [hinv.items.halt_iff_fault.mpr hne] at hms
  obtain ⟨hav, har⟩ := hinv.alarm_is_period hflt (by simp [hms])
  refine ⟨congrArg Held.written hav, ?_, har⟩
  rw [hav]
  exact alarmTicks_toNat (by have := s.per.isLt; omega)

/-- Settles O57: the period's part of the invariant, and that a legal period times 1000 fits the register. -/
theorem periodStaysInRange : Obligations.PeriodStaysInRange := by
  intro s hs
  obtain ⟨hlow, hhigh, hstep⟩ := hs.inv.timer.legal
  refine ⟨hlow, hhigh, hstep, fun hav => ?_⟩
  obtain ⟨p, hplow, hphigh, hpstep, hval⟩ := hs.inv.alarm_legal hav
  exact ⟨p, hplow, hphigh, hpstep, by rw [hval, alarmTicks_toNat (by omega)]⟩

/-! ### The two critical sections (R68) -/

/-- Settles O13: the mask closes the entry and excludes a run in progress, a run in its section excludes main context. -/
theorem sectionsExcludeOtherAgent : Obligations.SectionsExcludeOtherAgent := by
  intro s hs
  refine ⟨fun him i hagent => exec_of_not_enabled (fun hen => ?_) (by rintro rfl; cases hagent),
    fun hcsi i t hagent h => ?_, fun t h => ?_⟩
  · obtain ⟨-, hclear | hisr⟩ := hen.isr hagent
    · simp [him] at hclear
    · exact hisr (hs.mask_excludes_isr him)
  · have his := ((enabled_of_exec_next h).main hagent).2
    simpa [his] using hs.csi_iff_section.mp hcsi
  · rw [exec_csEnter] at h
    obtain ⟨⟨-, his, -⟩, rfl⟩ := whenEnabled_next.mp h
    refine ⟨rfl, Bool.eq_false_iff.mpr fun hcsi => ?_, his⟩
    simpa [his] using hs.csi_iff_section.mp hcsi

/-! ### The counter (R70, R71) -/

/-- Only the two stores and `RESET` write the cell. -/
theorem exec_keeps_pt (hstore : i ≠ .store) (hiStore : i ≠ .iStore) (hreset : i ≠ .reset) (h : exec i s = .next t) :
    t.pt = s.pt := by
  obtain ⟨-, -, hpt, -⟩ := writersOfEachItem i s t h hreset
  by_contra hne
  exact (hpt hne).elim hstore hiStore

/-- Settles O45: the temporaries hold the counter moved by one where they are stored (`readTm_store`, `readTi_store`). -/
theorem lockedCounterMovesByOne : Obligations.LockedCounterMovesByOne := by
  intro s t hs
  refine ⟨fun h => ?_, fun h => ?_, fun i hstore hiStore hreset h => memRead_ext (exec_keeps_pt hstore hiStore hreset h)⟩
  · rw [exec_store] at h
    obtain ⟨hat, rfl⟩ := whenEnabled_next.mp h
    exact hs.items.readTm_store hat
  · rw [exec_iStore] at h
    obtain ⟨⟨-, his⟩, rfl⟩ := whenEnabled_next.mp h
    exact hs.items.readTi_store his

end Sys2Proof.Machine
end

section
/-! PROOF. The ledger (R247, R248): what each instruction does to the terms of the two sums, and with it every counted run
from reset. -/

namespace Sys2Proof.Machine

open Sys2Proof

variable {s t : State} {i : Instr} {l l' : Ledger}

/-! ### Tick conservation (R247) -/

/-- The ISR has taken an alarm and not yet stored it. -/
@[simp] abbrev HoldsAlarm (is : IsrCode) : Prop := is = 1#3 ∨ is = 2#3 ∨ is = 3#3 ∨ is = 4#3

/-- A step that moves none of the terms of the sum. -/
theorem TicksConserved.of_eq (h : TicksConserved l s) (hflt : s.flt = 0#3) (halarms : l'.alarms = l.alarms)
    (hstores : l'.stores = l.stores) (hip : t.ip = s.ip) (hpt : t.pt = s.pt)
    (hholds : HoldsAlarm t.is ↔ HoldsAlarm s.is) : TicksConserved l' t := by
  intro _
  rw [halarms, hstores, hip, hpt, if_congr hholds rfl rfl]
  exact h hflt

/-- Of a faulted state nothing is said. -/
theorem TicksConserved.of_faulted (h : t.Faulted) : TicksConserved l t := fun hflt => absurd hflt h

theorem exec_keeps_ticksConserved (hs : Inv s) (hl : TicksConserved l s) (h : exec i s = .next t) :
    TicksConserved (l.after i s) t := by
  cases i with
  | csEnter | load | csExit | toggle | setAlarm | initAlarm | initEn | poll =>
    obtain ⟨⟨hflt, -⟩, rfl⟩ := whenEnabled_next.mp h
    exact hl.of_eq hflt rfl rfl rfl rfl .rfl
  | dbInc lvl now =>
    rw [exec_dbInc, State.pressInc_eq] at h
    obtain ⟨⟨hflt, -⟩, rfl⟩ := whenEnabled_next.mp h
    exact hl.of_eq hflt rfl rfl rfl rfl .rfl
  | dbDec lvl now =>
    rw [exec_dbDec, State.pressDec_eq] at h
    obtain ⟨⟨hflt, -⟩, rfl⟩ := whenEnabled_next.mp h
    exact hl.of_eq hflt rfl rfl rfl rfl .rfl
  | initTmr ok =>
    obtain ⟨⟨hflt, -⟩, ⟨-, rfl⟩ | ⟨-, rfl⟩⟩ := exec_initTmr_next h
    · exact hl.of_eq hflt rfl rfl rfl rfl .rfl
    · exact .of_faulted (FaultCause.code_ne_zero .startupFail)
  | dec =>
    obtain ⟨⟨hflt, -⟩, ⟨-, rfl⟩ | ⟨-, rfl⟩⟩ := exec_dec_next h
    · exact .of_faulted (FaultCause.code_ne_zero .ptUnderflow)
    · exact hl.of_eq hflt rfl rfl rfl rfl .rfl
  | store =>
    rw [exec_store] at h
    obtain ⟨hat, rfl⟩ := whenEnabled_next.mp h
    have hsum := hl hat.1
    have hpt := hs.items.readTm_store hat
    intro _
    dsimp only [Ledger.after]
    omega
  | halt => cases h
  | iEnter =>
    obtain ⟨⟨hflt, his, hip, -⟩, rfl⟩ := whenEnabled_next.mp h
    have hsum : l.alarms = s.ip + 0 + s.pt.toNat + l.stores := by simpa [his] using hl hflt
    intro _
    change l.alarms = s.ip - 1 + 1 + s.pt.toNat + l.stores
    omega
  | iCsEnter | iLoad | iCsExit | iRet =>
    obtain ⟨⟨hflt, his⟩, rfl⟩ := whenEnabled_next.mp h
    exact hl.of_eq hflt rfl rfl rfl rfl (by simp [his])
  | iInc =>
    obtain ⟨⟨hflt, his⟩, ⟨-, rfl⟩ | ⟨-, rfl⟩⟩ := exec_iInc_next h
    · exact .of_faulted (FaultCause.code_ne_zero .ptOverflow)
    · exact hl.of_eq hflt rfl rfl rfl rfl (by simp [his])
  | iStore =>
    rw [exec_iStore] at h
    obtain ⟨⟨hflt, his⟩, rfl⟩ := whenEnabled_next.mp h
    have hsum : l.alarms = s.ip + 1 + s.pt.toNat + l.stores := by simpa [his] using hl hflt
    have hpt := hs.items.readTi_store his
    intro _
    change l.alarms = s.ip + 0 + s.readTi.toNat + l.stores
    omega
  | alarm =>
    rw [exec_alarm] at h
    obtain ⟨⟨-, hflt, -⟩, rfl⟩ := whenEnabled_next.mp h
    have hsum := hl hflt
    intro _
    simp only [Ledger.after]
    omega
  | ustep =>
    obtain ⟨⟨-, hflt, -⟩, rfl⟩ := whenEnabled_next.mp h
    cases hfires : s.timerNow.1 with
    | true =>
      rw [State.tick_of_fires hfires]
      have hsum := hl hflt
      intro _
      simp only [Ledger.after, hfires, if_true]
      omega
    | false =>
      rw [State.tick_of_not_fires hfires, Ledger.after, hfires]
      exact hl.of_eq hflt rfl rfl rfl rfl .rfl
  | reset =>
    cases h
    exact fun _ => rfl

/-! ### The toggle count (R248) -/

/-- A decrement has been stored and its toggle is still to come. -/
@[simp] abbrev OwesToggle (ms : MainCode) : Prop := ms = 5#4 ∨ ms = 6#4

/-- A step that moves none of the terms of the count. -/
theorem TogglesCounted.of_eq (h : TogglesCounted l s) (hflt : s.flt = 0#3) (hstores : l'.stores = l.stores)
    (htoggles : l'.toggles = l.toggles) (hout : t.out = s.out) (howes : OwesToggle t.ms ↔ OwesToggle s.ms) :
    TogglesCounted l' t := by
  intro _
  rw [hstores, htoggles, hout, if_congr howes rfl rfl]
  exact h hflt

theorem TogglesCounted.of_faulted (h : t.Faulted) : TogglesCounted l t := fun hflt => absurd hflt h

theorem decide_odd_succ (n : Nat) : decide ((n + 1) % 2 = 1) = !decide (n % 2 = 1) := by
  rw [← decide_not, decide_eq_decide]
  omega

theorem exec_keeps_togglesCounted (hl : TogglesCounted l s) (h : exec i s = .next t) :
    TogglesCounted (l.after i s) t := by
  cases i with
  | poll =>
    obtain ⟨⟨hflt, -, hms⟩, rfl⟩ := whenEnabled_next.mp h
    refine hl.of_eq hflt rfl rfl rfl ?_
    rw [State.setMs_ms]
    split <;> simp [hms]
  | csEnter | load | csExit | setAlarm | initAlarm | initEn =>
    obtain ⟨⟨hflt, -, hms⟩, rfl⟩ := whenEnabled_next.mp h
    exact hl.of_eq hflt rfl rfl rfl (by simp [hms])
  | dbInc lvl now =>
    rw [exec_dbInc, State.pressInc_eq] at h
    obtain ⟨⟨hflt, -, hms⟩, rfl⟩ := whenEnabled_next.mp h
    exact hl.of_eq hflt rfl rfl rfl (by simp [hms])
  | dbDec lvl now =>
    rw [exec_dbDec, State.pressDec_eq] at h
    obtain ⟨⟨hflt, -, hms⟩, rfl⟩ := whenEnabled_next.mp h
    exact hl.of_eq hflt rfl rfl rfl (by simp [hms])
  | initTmr ok =>
    obtain ⟨⟨hflt, -, hms⟩, ⟨-, rfl⟩ | ⟨-, rfl⟩⟩ := exec_initTmr_next h
    · exact hl.of_eq hflt rfl rfl rfl (by simp [hms])
    · exact .of_faulted (FaultCause.code_ne_zero .startupFail)
  | dec =>
    obtain ⟨⟨hflt, -, hms⟩, ⟨-, rfl⟩ | ⟨-, rfl⟩⟩ := exec_dec_next h
    · exact .of_faulted (FaultCause.code_ne_zero .ptUnderflow)
    · exact hl.of_eq hflt rfl rfl rfl (by simp [hms])
  | store =>
    obtain ⟨⟨hflt, -, hms⟩, rfl⟩ := whenEnabled_next.mp h
    obtain ⟨hsum, hout⟩ := hl hflt
    have hsum' : l.toggles + 0 = l.stores := by simpa [hms] using hsum
    intro _
    exact ⟨congrArg (· + 1) hsum', hout⟩
  | toggle =>
    rw [exec_toggle] at h
    obtain ⟨⟨hflt, -, hms⟩, rfl⟩ := whenEnabled_next.mp h
    obtain ⟨hsum, hout⟩ := hl hflt
    have hsum' : l.toggles + 1 = l.stores := by simpa [hms] using hsum
    intro _
    exact ⟨hsum', by rw [Ledger.after, decide_odd_succ, hout]⟩
  | halt => cases h
  | iInc =>
    obtain ⟨⟨hflt, -⟩, ⟨-, rfl⟩ | ⟨-, rfl⟩⟩ := exec_iInc_next h
    · exact .of_faulted (FaultCause.code_ne_zero .ptOverflow)
    · exact hl.of_eq hflt rfl rfl rfl .rfl
  | iEnter | iCsEnter | iLoad | iStore | iCsExit | iRet =>
    obtain ⟨⟨hflt, -⟩, rfl⟩ := whenEnabled_next.mp h
    exact hl.of_eq hflt rfl rfl rfl .rfl
  | alarm =>
    obtain ⟨⟨-, hflt, -⟩, rfl⟩ := whenEnabled_next.mp h
    exact hl.of_eq hflt rfl rfl rfl .rfl
  | ustep =>
    rw [exec_ustep, State.tick_eq] at h
    obtain ⟨⟨-, hflt, -⟩, rfl⟩ := whenEnabled_next.mp h
    refine hl.of_eq hflt ?_ ?_ rfl .rfl <;> (rw [Ledger.after]; split <;> rfl)
  | reset =>
    cases h
    exact fun _ => ⟨rfl, rfl⟩

/-- Settles O60: term by term, with the stores moving the counter by one (`readTm_store`, `readTi_store`). -/
theorem stepKeepsLedger : Obligations.StepKeepsLedger :=
  fun _ _ _ _ hs hticks htoggles h => ⟨exec_keeps_ticksConserved hs hticks h, exec_keeps_togglesCounted htoggles h⟩

/-! ### Counted runs -/

/-- The ledger's two sums hold along a run from reset, together with the invariant that keeps them. -/
theorem CountedRun.conserves (h : CountedRun l s) : Inv s ∧ TicksConserved l s ∧ TogglesCounted l s := by
  induction h with
  | reset timed => exact ⟨State.resetWith_inv timed, fun _ => rfl, fun _ => ⟨rfl, rfl⟩⟩
  | op l s t i n _ hexec ih =>
    obtain ⟨hinv, hticks, htoggles⟩ := ih
    have hinv' := hinv.fetched s.trace n
    exact ⟨exec_keeps_inv hinv' hexec, stepKeepsLedger l i _ t hinv' hticks htoggles hexec⟩

/-- Settles O58: O60's step along the run. -/
theorem tickConservation : Obligations.TickConservation := fun _ _ h => h.conserves.2.1

/-- Settles O59: O60's step along the run; where nothing is pending, held or counted, the two sums are equal. -/
theorem toggleCountMatchesTicks : Obligations.ToggleCountMatchesTicks := by
  intro l s h
  obtain ⟨-, hticks, htoggles⟩ := h.conserves
  refine ⟨htoggles, fun ⟨hflt, hms, his, hpt, hip⟩ => ?_⟩
  obtain ⟨hcount, hout⟩ := htoggles hflt
  have hstores : l.stores = l.alarms := by simpa [his, hpt, hip] using (hticks hflt).symm
  have htoggled : l.toggles = l.stores := by simpa [hms] using hcount
  exact ⟨hstores, htoggled.trans hstores, by rw [hout, htoggled, hstores]⟩

end Sys2Proof.Machine
end

section
/-! PROOF. Each micro-operation of MAIN: its answer where it is enabled, its refusal elsewhere, and what the invariant adds in
a run from reset (spec files 40, 42, 43). -/

namespace Sys2Proof.Machine

open Sys2Proof

variable {s t : State} {i : Instr}

/-! ### The loop up to the store -/

/-- Settles O19: POLL's equation. -/
theorem pollReadsCounterAndBranches : Obligations.PollReadsCounterAndBranches := fun s =>
  ⟨fun hflt his hms => (exec_poll s).trans (whenEnabled_of ⟨hflt, his, hms⟩), fun hoff => exec_of_not_enabled hoff (by simp), rfl, rfl⟩

/-- Settles O52: a quiescent state is at `POLL` with the counter 0, the branch that stays. -/
theorem idlePollStaysQuiescent : Obligations.IdlePollStaysQuiescent := by
  refine fun s => ⟨fun hq => ?_, fun hfaulted hq => hfaulted hq.1⟩
  obtain ⟨hflt, hms, his, hpt, hip⟩ := hq
  refine ⟨?_, hflt, hms, his, hpt, hip⟩
  rw [exec_poll, whenEnabled_of ⟨hflt, his, hms⟩, hpt, if_pos rfl, ← hms]

/-- Settles O20: the two equations, with the mask's part in I_ENTER's guard and no part in the tick source's. -/
theorem mainSectionSetsAndClearsMask : Obligations.MainSectionSetsAndClearsMask := by
  intro s
  refine ⟨fun hflt his hms => (exec_csEnter s).trans (whenEnabled_of ⟨hflt, his, hms⟩),
    fun hoff => exec_of_not_enabled hoff (by simp), rfl, rfl, fun hs ⟨_, his, _⟩ => ?_,
    fun him => ⟨fun ⟨_, _, _, hclear⟩ => ?_, fun hen hflt => enabled_tickSourceInstr ⟨hen, hflt⟩⟩,
    fun hflt his hms => (exec_csExit s).trans (whenEnabled_of ⟨hflt, his, hms⟩), fun hoff => exec_of_not_enabled hoff (by simp), rfl, rfl,
    fun t h hip => ?_⟩
  · refine Bool.eq_false_iff.mpr fun hcsi => ?_
    simpa [his] using hs.csi_iff_section.mp hcsi
  · simp [him] at hclear
  · rw [exec_csExit] at h
    obtain ⟨⟨hflt, his, -⟩, rfl⟩ := whenEnabled_next.mp h
    exact ⟨hflt, his, hip, rfl⟩

/-- Settles O21: LOAD's equation; that a tick was seen is the invariant's at MS = 2. -/
theorem loadRereadsCounter : Obligations.LoadRereadsCounter := fun s =>
  ⟨fun hflt his hms => (exec_load s).trans <| whenEnabled_of ⟨hflt, his, hms⟩, fun hoff => exec_of_not_enabled hoff (by simp), rfl, rfl,
    fun hs ⟨_, _, hms⟩ => hs.inv.tick_seen (.inr hms)⟩

/-- Settles O22: DEC's two equations; the invariant excludes the fault. -/
theorem decDecrementsOrRaises : Obligations.DecDecrementsOrRaises := by
  intro s
  refine ⟨fun hflt his hms hne => ?_, fun hflt his hms hzero => ?_, fun hoff => exec_of_not_enabled hoff (by simp), rfl,
    rfl, s.readTm_of_written, fun hs => hs.inv.items.readTm_ne_zero⟩
  · rw [exec_dec_of_ne hne]; exact whenEnabled_of ⟨hflt, his, hms⟩
  · rw [exec_dec_of_zero hzero]; exact whenEnabled_of ⟨hflt, his, hms⟩

/-- Settles O23: STORE's equation; the invariant gives the value. -/
theorem storeWritesCounter : Obligations.StoreWritesCounter := fun s =>
  ⟨fun hflt his hms => (exec_store s).trans <| whenEnabled_of ⟨hflt, his, hms⟩, fun hoff => exec_of_not_enabled hoff (by simp), rfl, rfl,
    s.readTm_of_written, fun hs => hs.inv.items.readTm_store⟩

/-- Settles O24: TOGGLE's equation; the pin it has driven reads as driven. -/
theorem toggleInvertsOutputAndDrivesPin : Obligations.ToggleInvertsOutputAndDrivesPin := by
  refine fun s => ⟨fun hflt his hms => (exec_toggle s).trans (whenEnabled_of ⟨hflt, his, hms⟩),
    fun hoff => exec_of_not_enabled hoff (by simp), rfl, rfl, fun t h => ?_⟩
  rw [exec_toggle] at h
  obtain ⟨-, rfl⟩ := whenEnabled_next.mp h
  rfl

/-! ### The timer's period and startup -/

/-- Settles O27: SET_ALARM's equation; a 16-bit period times 1000 fits 32 bits. -/
theorem setAlarmProgramsPeriod : Obligations.SetAlarmProgramsPeriod := by
  refine fun s => ⟨fun hflt his hms => ?_, fun t h => ?_, fun hoff => exec_of_not_enabled hoff (by simp), rfl, rfl⟩
  · rw [exec_setAlarm, countAfterSetAlarm_cases]
    exact whenEnabled_of ⟨hflt, his, hms⟩
  · rw [exec_setAlarm] at h
    obtain ⟨-, rfl⟩ := whenEnabled_next.mp h
    exact ⟨alarmTicks_toNat (by have := s.per.isLt; omega), rfl⟩

/-- Settles O28: INIT_TMR's two equations; the invariant holds the timer disabled there, and so the ISR idle. -/
theorem initTmrStartsOrFails : Obligations.InitTmrStartsOrFails := by
  refine fun s => ⟨fun hflt his hms => ⟨(exec_initTmr_of_ok s).trans (whenEnabled_of ⟨hflt, his, hms⟩),
      (exec_initTmr_of_fail s).trans (whenEnabled_of ⟨hflt, his, hms⟩)⟩,
    fun ok hoff => exec_of_not_enabled hoff (by simp), fun ok => ⟨rfl, rfl⟩, fun hs hms => ?_⟩
  have hen := hs.inv.disabled_at_startup (.inl hms)
  exact ⟨hen, (hs.inv.items.quiet_until_enabled hen).2.1⟩

/-- Settles O29: the two equations; the second enables the tick source, whichever it is. -/
theorem startupProgramsThenEnables : Obligations.StartupProgramsThenEnables := by
  refine fun s => ⟨fun hflt his hms => (exec_initAlarm s).trans (whenEnabled_of ⟨hflt, his, hms⟩),
    fun hoff => exec_of_not_enabled hoff (by simp), rfl, rfl,
    fun hflt his hms => (exec_initEn s).trans (whenEnabled_of ⟨hflt, his, hms⟩),
    fun hoff => exec_of_not_enabled hoff (by simp), rfl, rfl, fun t h => ?_⟩
  rw [exec_initEn] at h
  obtain ⟨⟨hflt, -⟩, rfl⟩ := whenEnabled_next.mp h
  exact ⟨enabled_tickSourceInstr ⟨rfl, hflt⟩, rfl⟩

/-! ### The halted unit (R149, R181) -/

/-- Only raising writes 15 to `MS`: the other codes of MAIN that are written are those of its micro-operations. -/
theorem exec_comes_to_halt (h : exec i s = .next t) (hms : t.ms = 15#4) : s.ms = 15#4 ∨ t.flt ≠ 0#3 := by
  cases i with
  | poll =>
    obtain ⟨-, rfl⟩ := whenEnabled_next.mp h
    rw [State.setMs_ms] at hms
    split at hms <;> cases hms
  | csEnter | load | store | csExit | toggle | dbInc | dbDec | setAlarm | initAlarm | initEn =>
    obtain ⟨-, rfl⟩ := whenEnabled_next.mp h
    cases hms
  | dec =>
    obtain ⟨-, ⟨-, rfl⟩ | ⟨-, rfl⟩⟩ := exec_dec_next h
    · exact .inr (FaultCause.code_ne_zero .ptUnderflow)
    · cases hms
  | initTmr ok =>
    obtain ⟨-, ⟨-, rfl⟩ | ⟨-, rfl⟩⟩ := exec_initTmr_next h
    · cases hms
    · exact .inr (FaultCause.code_ne_zero .startupFail)
  | iInc =>
    obtain ⟨-, ⟨-, rfl⟩ | ⟨-, rfl⟩⟩ := exec_iInc_next h
    · exact .inr (FaultCause.code_ne_zero .ptOverflow)
    · exact .inl hms
  | halt => cases h
  | ustep =>
    rw [exec_ustep, State.tick_eq] at h
    obtain ⟨-, rfl⟩ := whenEnabled_next.mp h
    exact .inl hms
  | reset =>
    cases h
    cases hms
  | iEnter | iCsEnter | iLoad | iStore | iCsExit | iRet | alarm =>
    obtain ⟨-, rfl⟩ := whenEnabled_next.mp h
    exact .inl hms

/-- Settles O30: no guard of HALT is met, and `MS = 15` stops the sequencer. -/
theorem haltNeverSteps : Obligations.HaltNeverSteps :=
  ⟨by decide, rfl, rfl, fun s => ⟨exec_halt s, fun hms _ _ _ => if_pos (.inr hms),
    fun _ (hs : s.Faulted) _ _ => hs.eq_reset_of_exec_next, fun _ _ => exec_comes_to_halt⟩⟩

end Sys2Proof.Machine
end

section
/-! PROOF. The micro-operations of the ISR and of the environment: answers and refusals, and that the ISR neither reads nor
writes the registers of main context (spec files 10, 40, 41, 70). -/

namespace Sys2Proof.Machine

open Sys2Proof

variable {s t : State} {i : Instr}

/-! ### The ISR -/

/-- Where MAIN stands outside its section, past startup and unfaulted, its code is that of `POLL`, of `CS_ENTER` or of the
second half of the transaction. -/
theorem mainCode_outside (ms : MainCode) (hsection : ¬InMainSection ms) (hstartup : ms ≠ 10#4 ∧ ms ≠ 11#4 ∧ ms ≠ 12#4)
    (hlegal : ms ≠ 13#4 ∧ ms ≠ 14#4 ∧ ms ≠ 15#4) :
    ms = 0#4 ∨ ms = 1#4 ∨ ms = 6#4 ∨ ms = 7#4 ∨ ms = 8#4 ∨ ms = 9#4 := by
  revert ms; decide

/-- With an alarm pending the timer is enabled, so startup is over; the clear mask says where MAIN is not (R120 (c)). -/
theorem Inv.ms_of_entryOpen (hs : Inv s) (h : s.EntryOpen) :
    s.ms = 0#4 ∨ s.ms = 1#4 ∨ s.ms = 6#4 ∨ s.ms = 7#4 ∨ s.ms = 8#4 ∨ s.ms = 9#4 := by
  obtain ⟨hflt, -, hip, him⟩ := h
  have hen := hs.counter.enabled_of_pending hip
  have hstartup : ¬(s.ms = 10#4 ∨ s.ms = 11#4 ∨ s.ms = 12#4) := fun hms => by
    simp [hs.disabled_at_startup hms] at hen
  obtain ⟨h13, h14, -⟩ := hs.items.codes_legal
  exact mainCode_outside s.ms (hs.main_outside hflt him) (by simpa only [not_or] using hstartup)
    ⟨h13, h14, fun h15 => hs.items.halt_iff_fault.mp h15 hflt⟩

/-- Settles O31: I_ENTER's equation, and the codes of MAIN that its guard leaves. -/
theorem iEnterTakesOnePending : Obligations.IEnterTakesOnePending := by
  refine fun s => ⟨fun hflt his hip him => (exec_iEnter s).trans <| whenEnabled_of ⟨hflt, his, hip, him⟩, fun hoff => ?_, rfl, rfl,
    fun hs => hs.inv.ms_of_entryOpen⟩
  refine exec_of_not_enabled (fun ⟨hflt, his, hip, him⟩ => ?_) (by simp)
  obtain him' | his' | hip' | hflt' := hoff
  · simp [him] at him'
  · exact his' his
  · exact hip.ne' hip'
  · exact hflt' hflt

/-- Settles O32: the two equations; a run in progress has the mask clear. -/
theorem isrSectionSetsAndClearsFlag : Obligations.IsrSectionSetsAndClearsFlag := fun s =>
  ⟨fun hflt his => (exec_iCsEnter s).trans (whenEnabled_of ⟨hflt, his⟩),
    fun hoff => exec_of_not_enabled hoff (by simp), rfl, rfl, fun hs his => hs.im_eq_false_of_isr (by simp [his]),
    fun hflt his => (exec_iCsExit s).trans (whenEnabled_of ⟨hflt, his⟩), fun hoff => exec_of_not_enabled hoff (by simp), rfl, rfl⟩

/-- Settles O33: I_LOAD's equation. -/
theorem iLoadReadsCounter : Obligations.ILoadReadsCounter := fun s =>
  ⟨fun hflt his => (exec_iLoad s).trans (whenEnabled_of ⟨hflt, his⟩), fun hoff => exec_of_not_enabled hoff (by simp), rfl, rfl⟩

/-- Settles O34: I_INC's two equations; below the largest value the sum does not wrap. -/
theorem iIncIncrementsOrRaises : Obligations.IIncIncrementsOrRaises := by
  refine fun s => ⟨fun hflt his hlt => ⟨?_, count_succ_toNat hlt⟩, fun hflt his hmax => ?_,
    fun hoff => exec_of_not_enabled hoff (by simp), rfl, rfl, s.readTi_of_written⟩
  · rw [exec_iInc_of_lt hlt]; exact whenEnabled_of ⟨hflt, his⟩
  · rw [exec_iInc_of_max hmax]; exact whenEnabled_of ⟨hflt, his⟩

/-! ### What the ISR neither reads nor writes (R42) -/

theorem mapNext_whenEnabled (f : State → State) (p : Prop) [Decidable p] (u : State) :
    mapNext f (whenEnabled p u) = whenEnabled p (f u) := by
  unfold whenEnabled
  split <;> rfl

/-- Neither a guard of the ISR nor what it writes mentions a register of main context. -/
theorem exec_withMainRegs (hagent : i.agent = .isr) (v : State) :
    exec i (s.withMainRegs v) = mapNext (fun t => t.withMainRegs v) (exec i s) := by
  cases i with
  | iEnter => rw [exec_iEnter s, mapNext_whenEnabled]; rfl
  | iCsEnter => rw [exec_iCsEnter s, mapNext_whenEnabled]; rfl
  | iLoad => rw [exec_iLoad s, mapNext_whenEnabled]; rfl
  | iStore => rw [exec_iStore s, mapNext_whenEnabled]; rfl
  | iCsExit => rw [exec_iCsExit s, mapNext_whenEnabled]; rfl
  | iRet => rw [exec_iRet s, mapNext_whenEnabled]; rfl
  | iInc =>
    by_cases hmax : s.readTi = BitVec.allOnes 32
    · rw [exec_iInc_of_max hmax, mapNext_whenEnabled]
      exact exec_iInc_of_max (s := s.withMainRegs v) hmax
    · rw [exec_iInc_of_lt hmax, mapNext_whenEnabled]
      exact exec_iInc_of_lt (s := s.withMainRegs v) hmax
  | _ => cases hagent

theorem exec_isr_keeps_im_ms (hagent : i.agent = .isr) (h : exec i s = .next t) :
    t.im = s.im ∧ (t.ms = s.ms ∨ (t.flt ≠ 0#3 ∧ t.ms = 15#4)) := by
  cases i with
  | iEnter | iCsEnter | iLoad | iStore | iCsExit | iRet =>
    obtain ⟨-, rfl⟩ := whenEnabled_next.mp h
    exact ⟨rfl, .inl rfl⟩
  | iInc =>
    obtain ⟨-, ⟨-, rfl⟩ | ⟨-, rfl⟩⟩ := exec_iInc_next h
    · exact ⟨rfl, .inr ⟨FaultCause.code_ne_zero .ptOverflow, rfl⟩⟩
    · exact ⟨rfl, .inl rfl⟩
  | _ => cases hagent

/-- Settles O12: by the micro-operation. -/
theorem isrIgnoresMainRegisters : Obligations.IsrIgnoresMainRegisters :=
  fun _ _ v hagent => ⟨exec_withMainRegs hagent v, fun _ => exec_isr_keeps_im_ms hagent⟩

/-! ### The tick source -/

/-- Settles O37: ALARM's equation. -/
theorem alarmAddsOnePending : Obligations.AlarmAddsOnePending := by
  refine fun s => ⟨fun hen hflt htimed => (exec_alarm s).trans <| whenEnabled_of ⟨hen, hflt, htimed⟩, fun hoff => ?_, rfl, rfl⟩
  refine exec_of_not_enabled (fun ⟨hen, hflt, htimed⟩ => ?_) (by simp)
  obtain hen' | hflt' | htimed' := hoff
  · simp [hen] at hen'
  · exact hflt' hflt
  · simp [htimed] at htimed'

theorem alarmFires_iff {cmp : AlarmCompare} {c av : Nat} :
    alarmFires cmp c av = true ↔ (cmp = .ge ∧ av ≤ c) ∨ (cmp = .eq ∧ c = av) := by
  cases cmp <;> simp [alarmFires]

theorem State.timerNow_of_fires
    (h : alarmFires Config.alarmCompare (nextCount Config.tcWidth s.tc) s.readAv.toNat = true) :
    s.timerNow = (true, reloadCount s.readAr (nextCount Config.tcWidth s.tc)) := if_pos h

theorem State.timerNow_of_not_fires
    (h : ¬alarmFires Config.alarmCompare (nextCount Config.tcWidth s.tc) s.readAv.toNat = true) :
    s.timerNow = (false, nextCount Config.tcWidth s.tc) := if_neg h

/-- Settles O38: the tick's two outcomes, by whether the comparison holds. -/
theorem ustepCountsAndFires : Obligations.UstepCountsAndFires := by
  rintro s c rfl
  refine ⟨fun hen hflt htimed hfires => ?_, fun hen hflt htimed hquiet => ?_, fun hoff => ?_, rfl, rfl⟩
  · have hnow := s.timerNow_of_fires (alarmFires_iff.mpr hfires)
    rw [exec_ustep, whenEnabled_of ⟨hen, hflt, htimed⟩, State.tick_of_fires (by rw [hnow]), hnow]
    rfl
  · have hnow := s.timerNow_of_not_fires (mt alarmFires_iff.mp hquiet)
    rw [exec_ustep, whenEnabled_of ⟨hen, hflt, htimed⟩, State.tick_of_not_fires (by rw [hnow]), hnow]
    rfl
  · refine exec_of_not_enabled (fun ⟨hen, hflt, htimed⟩ => ?_) (by simp)
    obtain hen' | hflt' | htimed' := hoff
    · simp [hen] at hen'
    · exact hflt' hflt
    · simp [htimed] at htimed'

/-! ### Reset and startup -/

/-- Settles O39: the reset values, item by item, and the guards of the other instructions. -/
theorem resetRewritesEveryItem : Obligations.ResetRewritesEveryItem := fun s =>
  ⟨fun (hs : s.Faulted) _ _ => hs.eq_reset_of_exec_next, s.powerOn, exec_reset s,
    by simp [Instr.stepCode, Instr.format]⟩

/-- Settles O49: item by item. -/
theorem resetStateIsAsSpecified : Obligations.ResetStateIsAsSpecified := by
  unfold Obligations.ResetStateIsAsSpecified
  decide

/-- Settles O50: the three operations evaluate on the reset state, none of them reading the tick source. -/
theorem bootReachesFirstPoll : Obligations.BootReachesFirstPoll := fun _ =>
  ⟨_, rfl, rfl, rfl, rfl, rfl, rfl, rfl, rfl, rfl, rfl, rfl, rfl, rfl, rfl, rfl, rfl, rfl, rfl, rfl, rfl⟩

/-- Settles O17: a write marks the register, and a read looks at the mark. -/
theorem registersReadWhatWasWritten : Obligations.RegistersReadWhatWasWritten := fun _ =>
  ⟨fun _ => rfl, fun _ => rfl, fun _ => ⟨rfl, rfl⟩, fun _ => rfl, fun _ => rfl, fun _ => rfl, fun _ => rfl, fun _ => rfl,
    fun _ => rfl, fun _ => rfl, fun _ => rfl, fun _ => rfl, fun _ => rfl⟩

end Sys2Proof.Machine
end

section
/-! PROOF. Turns and the scheduler: a turn of a sequencer is the micro-operation that its register names, and every turn that
the free scheduler can pick has a next state (R14, R23, R24; log 1, log 3). -/

namespace Sys2Proof.Machine

open Sys2Proof

variable {s t : State} {i : Instr}

/-! ### Turns of a trace -/

theorem runWord_of_decode {w : TraceWord} (h : decode w = .ok i) (s : State) : runWord w s = exec i s := by
  rw [runWord, h]

theorem runWord_of_reserved {w : TraceWord} {why : DecodeReject} (h : decode w = .error why) (s : State) :
    runWord w s = .refused (.reservedEncoding why) := by
  rw [runWord, h]

/-- Where a turn has been placed, a step is that turn. -/
theorem step_of_trace {u : Turn} {rest : List Turn} (h : s.trace = u :: rest) : step s = runTurn u s.afterFetch := by
  rw [step, nextTurn, h]

/-- Settles O6: the turn is the word, and the word is what it decodes to. -/
theorem stepRunsDecodedWord : Obligations.StepRunsDecodedWord := by
  intro s w rest htrace
  have hfetch : s.afterFetch = { s with trace := rest, draws := s.draws + 1 } := by rw [State.afterFetch, htrace]; rfl
  rw [step_of_trace htrace, hfetch]
  exact ⟨fun i hi => runWord_of_decode hi _, fun why hwhy => runWord_of_reserved hwhy _⟩

/-! ### Turns of the sequencers -/

theorem stepMain_of_some {lvl ok : Bool} {now : Millis} (hflt : s.flt = 0#3) (his : s.is = 0#3)
    (h : mainInstr s.ms lvl ok now = some i) : stepMain lvl ok now s = exec i s := by
  have hms : s.ms ≠ 15#4 := by
    intro h15
    rw [h15] at h
    cases h
  simp [stepMain, hflt, his, hms, h]

theorem stepIsr_of_some (hflt : s.flt = 0#3) (h : isrInstr s.is = some i) : stepIsr s = exec i s := by
  simp [stepIsr, hflt, h]

/-- Settles O7: code by code, from the tables `mainInstr` and `isrInstr`. -/
theorem sequencerTurnsRunNamedOperation : Obligations.SequencerTurnsRunNamedOperation := by
  intro s lvl ok now hflt
  refine ⟨fun his => ?_, ?_⟩
  · refine ⟨?_, ?_, ?_, ?_, ?_, ?_, ?_, ?_, ?_, ?_, ?_, ?_, ?_⟩ <;>
      exact fun hms => stepMain_of_some hflt his (by rw [hms]; rfl)
  · refine ⟨?_, ?_, ?_, ?_, ?_, ?_, ?_⟩ <;> exact fun his => stepIsr_of_some hflt (by rw [his]; rfl)

/-! ### The free scheduler -/

/-- The micro-operation that `MS` names is enabled in main context. -/
theorem enabled_of_mainInstr {lvl ok : Bool} {now : Millis} (hflt : s.flt = 0#3) (his : s.is = 0#3)
    (h : mainInstr s.ms lvl ok now = some i) : Enabled i s := by
  have hms (c : MainCode) (hc : s.ms.toNat = c.toNat) : s.MainAt c := ⟨hflt, his, BitVec.eq_of_toNat_eq hc⟩
  unfold mainInstr at h
  split at h <;> cases h <;> exact hms _ ‹_›

/-- The micro-operation that `IS` names is enabled where the ISR is ready. -/
theorem enabled_of_isrInstr (hready : s.IsrReady) (h : isrInstr s.is = some i) : Enabled i s := by
  obtain hopen | ⟨hflt, hne⟩ := hready
  · rw [hopen.2.1] at h
    cases h
    exact hopen
  · have his (c : IsrCode) (hc : s.is.toNat = c.toNat) : s.IsrAt c := ⟨hflt, BitVec.eq_of_toNat_eq hc⟩
    unfold isrInstr at h
    split at h
    case h_1 hzero => exact absurd (his 0#3 hzero).2 hne
    case h_8 => cases h
    all_goals cases h; exact his _ ‹_›

theorem stepMain_of_ready (hready : s.MainReady) (lvl ok : Bool) (now : Millis) :
    ∃ t, stepMain lvl ok now s = .next t := by
  obtain ⟨hflt, his, hms⟩ := hready
  cases hinstr : mainInstr s.ms lvl ok now with
  | none => exact ⟨_, stepMain_of_none hflt his hms hinstr⟩
  | some i =>
    rw [stepMain_of_some hflt his hinstr]
    exact exec_of_enabled (enabled_of_mainInstr hflt his hinstr)

theorem stepIsr_of_ready (hready : s.IsrReady) : ∃ t, stepIsr s = .next t := by
  have hflt : s.flt = 0#3 := hready.elim And.left And.left
  cases hinstr : isrInstr s.is with
  | none => exact ⟨_, stepIsr_of_none hflt hinstr⟩
  | some i =>
    rw [stepIsr_of_some hflt hinstr]
    exact exec_of_enabled (enabled_of_isrInstr hready hinstr)

theorem runTurn_of_encode (i : Instr) (s : State) : runTurn (.word (encode i)) s = exec i s :=
  runWord_of_decode (decode_encode i) s

/-- Every turn that the scheduler may pick has a next state, in the fetched state too: no guard reads `trace` or `draws`. -/
theorem runTurn_of_mem_enabledTurns {u : Turn} (hu : u ∈ enabledTurns s) : ∃ t, runTurn u s.afterFetch = .next t := by
  simp only [enabledTurns, List.mem_append, List.mem_ite_nil_right, List.mem_singleton] at hu
  obtain ((rfl | ⟨htimer, rfl⟩) | ⟨hisr, rfl⟩) | ⟨hmain, rfl⟩ := hu
  · exact ⟨_, runTurn_of_encode .reset _⟩
  · rw [runTurn_of_encode]
    exact exec_of_enabled (enabled_tickSourceInstr (s := s.afterFetch) htimer)
  · exact stepIsr_of_ready (s := s.afterFetch) hisr
  · exact stepMain_of_ready (s := s.afterFetch) hmain _ _ _

theorem freeTurn_mem (s : State) : freeTurn s ∈ enabledTurns s := by
  have hpos : 0 < (enabledTurns s).length := by simp [enabledTurns]
  rw [freeTurn, List.getD_eq_getElem _ _ (Nat.mod_lt _ hpos)]
  exact List.getElem_mem _

/-- An instruction neither places a turn nor moves the index of the free values. -/
theorem exec_keeps_trace_draws (h : exec i s = .next t) : t.draws = s.draws ∧ t.trace = s.trace := by
  by_cases hreset : i = .reset
  · subst hreset
    cases h
    exact ⟨rfl, rfl⟩
  · obtain ⟨-, -, -, -, -, -, -, -, -, -, -, -, -, -, -, -, -, hmodel⟩ := writersOfEachItem i s t h hreset
    exact hmodel

/-- Settles O16: the pick is among the enabled turns, each of which has a next state, and no turn writes the two fields. -/
theorem schedulerAlwaysSteps : Obligations.SchedulerAlwaysSteps := by
  intro s htrace
  obtain ⟨t, hturn⟩ := runTurn_of_mem_enabledTurns (freeTurn_mem s)
  have hstep : step s = .next t := by rw [step, nextTurn, htrace]; exact hturn
  have hnil : s.afterFetch.trace = [] := by rw [State.afterFetch, htrace]; rfl
  refine ⟨t, hstep, ?_⟩
  obtain ⟨i, hexec⟩ | ⟨-, rfl, -⟩ := step_next hstep
  · obtain ⟨hdraws, htail⟩ := exec_keeps_trace_draws hexec
    exact ⟨hdraws, htail.trans hnil⟩
  · exact ⟨rfl, hnil⟩

end Sys2Proof.Machine
end

section
/-! PROOF. One ISR run, by instructions with the tick source acting in its gaps (R128) and by turns of its sequencer (R127):
the states between its micro-operations, to which ticks may be added at any point. -/

namespace Sys2Proof.Machine

open Sys2Proof

variable {s t u : State} {i : Instr}

/-! ### Runs, instruction by instruction -/

theorem execAll_cons {rest : List Instr} (h : exec i s = .next t) : execAll (i :: rest) s = execAll rest t := by
  rw [execAll, h]

theorem execAll_append {is rest : List Instr} (h : execAll is s = .next t) : execAll (is ++ rest) s = execAll rest t := by
  induction is generalizing s with
  | nil => cases h; rfl
  | cons i is ih =>
    rw [execAll] at h
    cases hexec : exec i s with
    | next u =>
      rw [hexec] at h
      rw [List.cons_append, execAll_cons hexec]
      exact ih h
    | fault e => rw [hexec] at h; cases h
    | refused e => rw [hexec] at h; cases h

theorem execAll_cons_next {rest : List Instr} (h : execAll (i :: rest) s = .next t) :
    ∃ u, exec i s = .next u ∧ execAll rest u = .next t := by
  rw [execAll] at h
  cases hexec : exec i s with
  | next u => rw [hexec] at h; exact ⟨u, rfl, h⟩
  | fault e => rw [hexec] at h; cases h
  | refused e => rw [hexec] at h; cases h

/-! ### The tick source in a gap (R101, R102) -/

/-- The count after `n` ticks from `tc`, with the alarm value unchanged. -/
def countAfter (cmp : AlarmCompare) (width av : Nat) (autoReload : Bool) (tc : Nat) : Nat → Nat
  | 0 => tc
  | n + 1 => countAfter cmp width av autoReload (timerTick cmp width av autoReload tc).2 n

/-- How many alarms `n` steps of the unit's tick source make. -/
def State.alarmsIn (s : State) (n : Nat) : Nat :=
  if s.timed then firings Config.alarmCompare Config.tcWidth s.readAv.toNat s.readAr s.tc n else n

/-- The timer's count after them. -/
def State.countIn (s : State) (n : Nat) : Nat :=
  if s.timed then countAfter Config.alarmCompare Config.tcWidth s.readAv.toNat s.readAr s.tc n else s.tc

/-- All that they change. -/
def State.ticks (s : State) (n : Nat) : State := { s with ip := s.ip + s.alarmsIn n, tc := s.countIn n }

theorem State.alarmsIn_zero (s : State) : s.alarmsIn 0 = 0 := by
  unfold State.alarmsIn
  split <;> rfl

theorem State.countIn_zero (s : State) : s.countIn 0 = s.tc := by
  unfold State.countIn
  split <;> rfl

theorem State.ticks_zero (s : State) : s.ticks 0 = s := by
  rw [State.ticks, State.alarmsIn_zero, State.countIn_zero]
  rfl

theorem State.alarmsIn_succ (s : State) (n : Nat) : s.alarmsIn (n + 1) = s.alarmsIn 1 + (s.ticks 1).alarmsIn n := by
  cases htimed : s.timed <;> simp [State.alarmsIn, State.ticks, State.countIn, htimed, firings, countAfter]
  case false => omega
  case true => rfl

theorem State.countIn_succ (s : State) (n : Nat) : s.countIn (n + 1) = (s.ticks 1).countIn n := by
  cases htimed : s.timed <;> simp [State.ticks, State.countIn, htimed, countAfter]
  rfl

theorem State.ticks_succ (s : State) (n : Nat) : s.ticks (n + 1) = (s.ticks 1).ticks n := by
  rw [State.ticks, State.alarmsIn_succ, State.countIn_succ, ← Nat.add_assoc]
  rfl

theorem State.ticks_add (s : State) (m n : Nat) : s.ticks (m + n) = (s.ticks m).ticks n := by
  induction m generalizing s with
  | zero => rw [Nat.zero_add, State.ticks_zero]
  | succ m ih => rw [Nat.succ_add, State.ticks_succ, ih, ← State.ticks_succ]

/-- Of one tick of the timer the firings are whether it fires. -/
theorem State.alarmsIn_one (htimed : s.timed = true) : s.alarmsIn 1 = if s.timerNow.1 then 1 else 0 := by
  rw [State.alarmsIn, if_pos htimed]
  rfl

theorem State.countIn_one (htimed : s.timed = true) : s.countIn 1 = s.timerNow.2 := by
  rw [State.countIn, if_pos htimed]
  rfl

theorem State.tick_eq_ticks (htimed : s.timed = true) : s.tick = s.ticks 1 := by
  rw [State.ticks, State.alarmsIn_one htimed, State.countIn_one htimed]
  cases hfires : s.timerNow.1 with
  | true => exact State.tick_of_fires hfires
  | false => exact State.tick_of_not_fires hfires

theorem State.ring_eq_ticks (htimed : s.timed = false) : s.ring = s.ticks 1 := by
  simp [State.ring_eq, State.ticks, State.alarmsIn, State.countIn, htimed]

theorem exec_tickSourceInstr (h : s.TimerRuns) : exec (tickSourceInstr s.timed) s = .next (s.ticks 1) := by
  obtain ⟨hen, hflt⟩ := h
  cases htimed : s.timed with
  | true => exact (whenEnabled_of ⟨hen, hflt, htimed⟩).trans (congrArg _ (State.tick_eq_ticks htimed))
  | false => exact (whenEnabled_of ⟨hen, hflt, htimed⟩).trans (congrArg _ (State.ring_eq_ticks htimed))

/-- `n` steps of the tick source, if there are any, the timer running. -/
theorem execAll_replicate_tick {n : Nat} (h : (i = tickSourceInstr s.timed ∧ s.TimerRuns) ∨ n = 0) :
    execAll (List.replicate n i) s = .next (s.ticks n) := by
  obtain ⟨rfl, hruns⟩ | rfl := h
  · induction n generalizing s with
    | zero => rw [State.ticks_zero]; rfl
    | succ n ih =>
      rw [List.replicate_succ, execAll_cons (exec_tickSourceInstr hruns), s.ticks_succ n]
      exact ih (s := s.ticks 1) hruns
  · rw [State.ticks_zero]; rfl

/-! ### The stages of an ISR run (R120 to R126) -/

/-- The state `k` micro-operations after the entry from `s`. -/
def State.isrStage (s : State) (k : Nat) : State :=
  { s with
    is := BitVec.ofNat 3 ((k + 1) % 7)
    csi := if k = 0 then s.csi else decide (k ≤ 4)
    ti := if k ≤ 1 then s.ti else if k = 2 then ⟨s.pt, true⟩ else ⟨s.pt + 1#32, true⟩
    pt := if k ≤ 3 then s.pt else s.pt + 1#32 }

/-- The micro-operation that leads from stage `k` to the next. -/
def isrOp : Nat → Instr
  | 0 => .iCsEnter
  | 1 => .iLoad
  | 2 => .iInc
  | 3 => .iStore
  | 4 => .iCsExit
  | _ => .iRet

theorem exec_isrStage (hflt : s.flt = 0#3) (hpt : s.pt ≠ BitVec.allOnes 32) {k : Nat} (hk : k ≤ 5) :
    exec (isrOp k) (s.isrStage k) = .next (s.isrStage (k + 1)) := by
  match k, hk with
  | 0, _ | 1, _ | 3, _ | 4, _ | 5, _ => exact whenEnabled_of ⟨hflt, rfl⟩
  | 2, _ =>
    exact (exec_iInc_of_lt (s := s.isrStage 2) hpt).trans (whenEnabled_of ⟨hflt, rfl⟩)

/-- What a complete run leaves. -/
theorem State.isrStage_six (s : State) : s.isrStage 6 =
    { s with is := 0#3, csi := false, ti := ⟨s.pt + 1#32, true⟩, pt := s.pt + 1#32 } := rfl

/-- The rest of a run from stage `k` on: before each micro-operation a gap of so many steps `i` of the tick source. -/
def isrRest (i : Instr) (k : Nat) : List Nat → List Instr
  | [] => []
  | n :: ns => List.replicate n i ++ isrOp k :: isrRest i (k + 1) ns

theorem isrRunAmid_eq (i : Instr) (a b c d e f : Nat) :
    isrRunAmid i a b c d e f = .iEnter :: isrRest i 0 [a, b, c, d, e, f] := by
  simp [isrRunAmid, isrRest, isrOp]

/-- Ticks and stages do not touch what the other reads, so the ticks of all gaps can be gathered in front. -/
theorem execAll_isrRest {k : Nat} {ns : List Nat} (hflt : s.flt = 0#3) (hpt : s.pt ≠ BitVec.allOnes 32)
    (hk : k + ns.length ≤ 6) (hticks : (i = tickSourceInstr s.timed ∧ s.TimerRuns) ∨ ns.sum = 0) :
    execAll (isrRest i k ns) (s.isrStage k) = .next ((s.ticks ns.sum).isrStage (k + ns.length)) := by
  induction ns generalizing s k with
  | nil => rw [List.sum_nil, State.ticks_zero]; rfl
  | cons n ns ih =>
    rw [List.sum_cons] at hticks
    rw [List.length_cons] at hk
    have hgap : execAll (List.replicate n i) (s.isrStage k) = .next ((s.ticks n).isrStage k) :=
      execAll_replicate_tick (s := s.isrStage k) (hticks.imp_right (by omega))
    have hop : exec (isrOp k) ((s.ticks n).isrStage k) = .next ((s.ticks n).isrStage (k + 1)) :=
      exec_isrStage (s := s.ticks n) hflt hpt (by omega)
    rw [isrRest, execAll_append hgap, execAll_cons hop, List.sum_cons, State.ticks_add, List.length_cons,
      Nat.add_comm ns.length 1, ← Nat.add_assoc]
    exact ih (s := s.ticks n) hflt hpt (by omega) (hticks.imp_right (by omega))

/-- One complete run, with the tick source acting in its gaps. -/
theorem execAll_isrRunAmid {a b c d e f n : Nat} (hopen : s.EntryOpen) (hpt : s.pt ≠ BitVec.allOnes 32)
    (hn : n = a + b + c + d + e + f) (hticks : (i = tickSourceInstr s.timed ∧ s.TimerRuns) ∨ n = 0) :
    execAll (isrRunAmid i a b c d e f) s = .next { s with
      pt := s.pt + 1#32, ip := s.ip - 1 + s.alarmsIn n, is := 0#3, csi := false, ti := ⟨s.pt + 1#32, true⟩,
      tc := s.countIn n } := by
  have hsum : [a, b, c, d, e, f].sum = n := by simp; omega
  have henter : exec .iEnter s = .next (({ s with ip := s.ip - 1 } : State).isrStage 0) := whenEnabled_of hopen
  rw [isrRunAmid_eq, execAll_cons henter,
    execAll_isrRest (s := { s with ip := s.ip - 1 }) hopen.1 hpt (by simp) (hsum.symm ▸ hticks), hsum]
  change (.next ((State.ticks _ n).isrStage 6) : Result) = _
  rw [State.isrStage_six]
  rfl

theorem State.alarmsIn_of_untimed (h : s.timed = false) (n : Nat) : s.alarmsIn n = n := by
  simp [State.alarmsIn, h]

theorem State.countIn_of_untimed (h : s.timed = false) (n : Nat) : s.countIn n = s.tc := by
  simp [State.countIn, h]

theorem State.alarmsIn_of_timed (h : s.timed = true) (n : Nat) :
    s.alarmsIn n = firings Config.alarmCompare Config.tcWidth s.readAv.toNat s.readAr s.tc n := by
  simp [State.alarmsIn, h]

/-- Settles O46: one run with its gaps, with the ticks of the untimed unit, with none, and with those of the timed one. -/
theorem isrRunNetEffect : Obligations.IsrRunNetEffect := by
  intro s a b c d e f n hflt his hip him hlt hn
  have hopen : s.EntryOpen := ⟨hflt, his, hip, him⟩
  have hpt : s.pt ≠ BitVec.allOnes 32 := by
    intro hmax
    rw [hmax] at hlt
    exact absurd hlt (by decide)
  refine ⟨fun hticks => ?_, fun hen htimed => ⟨s.countIn n, ?_⟩⟩
  · obtain ⟨hen, htimed⟩ | hzero := hticks
    · rw [execAll_isrRunAmid hopen hpt hn (.inl ⟨by rw [htimed]; rfl, hen, hflt⟩), State.alarmsIn_of_untimed htimed,
        State.countIn_of_untimed htimed]
    · rw [execAll_isrRunAmid hopen hpt hn (.inr hzero), hzero, State.alarmsIn_zero, State.countIn_zero]
  · rw [execAll_isrRunAmid hopen hpt hn (.inl ⟨by rw [htimed]; rfl, hen, hflt⟩), State.alarmsIn_of_timed htimed]

/-! ### Seven turns (R127) -/

theorem runTurns_append {ts us : List Turn} (h : runTurns ts s = .next t) : runTurns (ts ++ us) s = runTurns us t := by
  induction ts generalizing s with
  | nil => cases h; rfl
  | cons u ts ih =>
    rw [runTurns] at h
    cases hturn : runTurn u s with
    | next v =>
      rw [hturn] at h
      rw [List.cons_append, runTurns, hturn]
      exact ih h
    | fault e => rw [hturn] at h; cases h
    | refused e => rw [hturn] at h; cases h

/-- The ISR's turn at a stage is that stage's micro-operation. -/
theorem stepIsr_isrStage (hflt : s.flt = 0#3) (hpt : s.pt ≠ BitVec.allOnes 32) {k : Nat} (hk : k ≤ 5) :
    stepIsr (s.isrStage k) = .next (s.isrStage (k + 1)) := by
  have hinstr : isrInstr (s.isrStage k).is = some (isrOp k) := by
    match k, hk with
    | 0, _ | 1, _ | 2, _ | 3, _ | 4, _ | 5, _ => rfl
  rw [stepIsr_of_some (s := s.isrStage k) hflt hinstr, exec_isrStage hflt hpt hk]

/-- After the entry, `k` further turns come to stage `k`. -/
theorem runTurns_isr (hopen : s.EntryOpen) (hpt : s.pt ≠ BitVec.allOnes 32) {k : Nat} (hk : k ≤ 6) :
    runTurns (List.replicate (k + 1) .isr) s = .next (({ s with ip := s.ip - 1 } : State).isrStage k) := by
  induction k with
  | zero =>
    have hinstr : isrInstr s.is = some .iEnter := by rw [hopen.2.1]; rfl
    have hturn : runTurn .isr s = .next (({ s with ip := s.ip - 1 } : State).isrStage 0) :=
      (stepIsr_of_some hopen.1 hinstr).trans (whenEnabled_of hopen)
    rw [List.replicate_one, runTurns, hturn]
    rfl
  | succ k ih =>
    have hturn : runTurn .isr (({ s with ip := s.ip - 1 } : State).isrStage k) =
        .next (({ s with ip := s.ip - 1 } : State).isrStage (k + 1)) :=
      stepIsr_isrStage (s := { s with ip := s.ip - 1 }) hopen.1 hpt (by omega)
    rw [List.replicate_succ', runTurns_append (ih (by omega)), runTurns, hturn]
    rfl

/-- Settles O47: the stages' codes are 1 to 6 and then 0. -/
theorem isrRunTakesSevenTurns : Obligations.IsrRunTakesSevenTurns := by
  intro s k hflt his hip him hpt hk
  cases k with
  | zero => exact ⟨s, rfl, by simp [his], hflt, rfl⟩
  | succ k =>
    refine ⟨_, runTurns_isr ⟨hflt, his, hip, him⟩ hpt (by omega), ?_, hflt, rfl⟩
    have hcode : ∀ k ≤ 6, BitVec.ofNat 3 ((k + 1) % 7) = 0#3 ↔ k + 1 = 0 ∨ k + 1 = 7 := by decide
    exact hcode k (by omega)

end Sys2Proof.Machine
end

section
/-! PROOF. One consume transaction with complete ISR runs in its gaps (R151). -/

namespace Sys2Proof.Machine

open Sys2Proof

variable {s t u : State} {i : Instr}

/-! ### Complete ISR runs, one after another -/

theorem isrRuns_succ (k : Nat) : isrRuns (k + 1) = isrRun ++ isrRuns k := by
  rw [isrRuns, List.replicate_succ, List.flatten_cons, isrRuns]

/-- One complete run without ticks in its gaps. -/
theorem execAll_isrRun (hopen : s.EntryOpen) (hpt : s.pt ≠ BitVec.allOnes 32) :
    execAll isrRun s = .next { s with
      pt := s.pt + 1#32, ip := s.ip - 1, is := 0#3, csi := false, ti := ⟨s.pt + 1#32, true⟩ } := by
  have hrun : execAll (isrRunAmid .alarm 0 0 0 0 0 0) s = .next _ := execAll_isrRunAmid hopen hpt rfl (.inr rfl)
  rw [State.alarmsIn_zero, State.countIn_zero] at hrun
  exact hrun

/-- `k` complete runs move `k` alarms from the pending count to the counter; they touch `CSI` and `TI`, nothing else. -/
theorem execAll_isrRuns {k : Nat} (hflt : s.flt = 0#3) (his : s.is = 0#3) (him : s.im = false) (hip : k ≤ s.ip)
    (hpt : s.pt.toNat + k < 2 ^ 32) : ∃ csi ti, execAll (isrRuns k) s =
      .next { s with pt := s.pt + BitVec.ofNat 32 k, ip := s.ip - k, csi := csi, ti := ti } := by
  induction k generalizing s with
  | zero => exact ⟨s.csi, s.ti, by rw [BitVec.add_zero]; rfl⟩
  | succ k ih =>
    have hmax : s.pt ≠ BitVec.allOnes 32 := by
      intro hmax
      rw [hmax, BitVec.toNat_allOnes] at hpt
      omega
    have hrun := execAll_isrRun ⟨hflt, his, by omega, him⟩ hmax
    obtain ⟨csi, ti, hruns⟩ := ih (s := { s with
      pt := s.pt + 1#32, ip := s.ip - 1, is := 0#3, csi := false, ti := ⟨s.pt + 1#32, true⟩ }) hflt rfl him
      (Nat.le_sub_one_of_lt hip) (by rw [count_succ_toNat hmax]; omega)
    refine ⟨csi, ti, ?_⟩
    have hsum : s.pt + 1#32 + BitVec.ofNat 32 k = s.pt + BitVec.ofNat 32 (k + 1) := by
      rw [BitVec.add_assoc, Nat.add_comm, BitVec.ofNat_add]
    rw [isrRuns_succ, execAll_append hrun, hruns]
    dsimp only
    rw [hsum, Nat.sub_sub, Nat.add_comm 1 k, ← his]

/-! ### The protected decrement (R92, R150) -/

theorem execAll_atomicDecrement (hflt : s.flt = 0#3) (his : s.is = 0#3) (hms : s.ms = 1#4) (hpt : s.pt ≠ 0#32) :
    execAll [.csEnter, .load, .dec, .store, .csExit] s =
      .next { s with pt := s.pt - 1#32, tm := ⟨s.pt - 1#32, true⟩, im := false, ms := 6#4 } := by
  have hcsEnter : exec .csEnter s = .next { s with im := true, ms := 2#4 } := whenEnabled_of ⟨hflt, his, hms⟩
  have hload : exec .load { s with im := true, ms := 2#4 } =
      .next { s with im := true, tm := ⟨s.pt, true⟩, ms := 3#4 } := whenEnabled_of ⟨hflt, his, rfl⟩
  have hdec : exec .dec { s with im := true, tm := ⟨s.pt, true⟩, ms := 3#4 } =
      .next { s with im := true, tm := ⟨s.pt - 1#32, true⟩, ms := 4#4 } :=
    (exec_dec_of_ne (s := { s with im := true, tm := ⟨s.pt, true⟩, ms := 3#4 }) hpt).trans
      (whenEnabled_of ⟨hflt, his, rfl⟩)
  have hstore : exec .store { s with im := true, tm := ⟨s.pt - 1#32, true⟩, ms := 4#4 } =
      .next { s with pt := s.pt - 1#32, im := true, tm := ⟨s.pt - 1#32, true⟩, ms := 5#4 } :=
    whenEnabled_of ⟨hflt, his, rfl⟩
  have hcsExit : exec .csExit { s with pt := s.pt - 1#32, im := true, tm := ⟨s.pt - 1#32, true⟩, ms := 5#4 } =
      .next { s with pt := s.pt - 1#32, tm := ⟨s.pt - 1#32, true⟩, im := false, ms := 6#4 } :=
    whenEnabled_of ⟨hflt, his, rfl⟩
  rw [execAll_cons hcsEnter, execAll_cons hload, execAll_cons hdec, execAll_cons hstore, execAll_cons hcsExit]
  rfl

/-! ### The two debounce steps, away from the states they are read in -/

/-- `t` holds what the two debounce steps read and write as `s` does. -/
def SamePress (s t : State) : Prop :=
  t.per = s.per ∧ t.lvInc = s.lvInc ∧ t.laInc = s.laInc ∧ t.lvDec = s.lvDec ∧ t.laDec = s.laDec ∧ t.draws = s.draws

theorem SamePress.pressInc (h : SamePress s t) (lvl : Bool) (now : Millis) :
    SamePress (s.pressInc lvl now) (t.pressInc lvl now) := by
  have ⟨hper, hlv, hla, hlvDec, hlaDec, hdraws⟩ := h
  have hread : t.readLaInc = s.readLaInc := by rw [State.readLaInc, State.readLaInc, hla, hdraws]
  rw [State.pressInc, State.pressInc, hlv, hread, hper]
  split
  · exact ⟨rfl, rfl, rfl, hlvDec, hlaDec, hdraws⟩
  · exact h

theorem SamePress.pressDec (h : SamePress s t) (lvl : Bool) (now : Millis) :
    SamePress (s.pressDec lvl now) (t.pressDec lvl now) := by
  have ⟨hper, hlvInc, hlaInc, hlv, hla, hdraws⟩ := h
  have hread : t.readLaDec = s.readLaDec := by rw [State.readLaDec, State.readLaDec, hla, hdraws]
  rw [State.pressDec, State.pressDec, hlv, hread, hper]
  split
  · exact ⟨rfl, hlvInc, hlaInc, rfl, rfl, hdraws⟩
  · exact h

/-- `DB_INC` in a state that holds of the presses what `s` does. -/
theorem SamePress.exec_dbInc (h : SamePress s t) (hat : t.MainAt 7#4) (lvl : Bool) (now : Millis) :
    exec (.dbInc lvl now) t = .next { t with
      per := (s.pressInc lvl now).per, lvInc := (s.pressInc lvl now).lvInc, laInc := (s.pressInc lvl now).laInc,
      ms := 8#4 } := by
  obtain ⟨hper, hlv, hla, -⟩ := h.pressInc lvl now
  rw [Machine.exec_dbInc, State.pressInc_eq, whenEnabled_of hat, hper, hlv, hla]

theorem SamePress.exec_dbDec (h : SamePress s t) (hat : t.MainAt 8#4) (lvl : Bool) (now : Millis) :
    exec (.dbDec lvl now) t = .next { t with
      per := (s.pressDec lvl now).per, lvDec := (s.pressDec lvl now).lvDec, laDec := (s.pressDec lvl now).laDec,
      ms := 9#4 } := by
  obtain ⟨hper, -, -, hlv, hla, -⟩ := h.pressDec lvl now
  rw [Machine.exec_dbDec, State.pressDec_eq, whenEnabled_of hat, hper, hlv, hla]

/-! ### The transaction (R151) -/

theorem count_add_toNat {v : Count} {k : Nat} (h : v.toNat + k < 2 ^ 32) :
    (v + BitVec.ofNat 32 k).toNat = v.toNat + k := by
  rw [BitVec.toNat_add, BitVec.toNat_ofNat]
  omega

/-- A micro-operation of MAIN that leaves the mask clear, and the ISR runs after it. -/
theorem execAll_isrRuns_after {k : Nat} (hexec : exec i s = .next t) (hflt : t.flt = 0#3) (his : t.is = 0#3)
    (him : t.im = false) (hip : k ≤ t.ip) (hpt : t.pt.toNat + k < 2 ^ 32) : ∃ csi ti, execAll (i :: isrRuns k) s =
      .next { t with pt := t.pt + BitVec.ofNat 32 k, ip := t.ip - k, csi := csi, ti := ti } := by
  rw [execAll_cons hexec]
  exact execAll_isrRuns hflt his him hip hpt

/-- The first half: the decrement, which finds the counter above 0 whatever runs came before it. -/
theorem execAll_consume {a b : Nat} (hflt : s.flt = 0#3) (his : s.is = 0#3) (hms : s.ms = 0#4) (him : s.im = false)
    (hpos : 1 ≤ s.pt.toNat) (hip : a + b ≤ s.ip) (hpt : s.pt.toNat + (a + b) < 2 ^ 32) :
    ∃ csi ti, execAll (.poll :: isrRuns a ++ ([.csEnter, .load, .dec, .store, .csExit] ++ isrRuns b)) s = .next { s with
      pt := s.pt + BitVec.ofNat 32 a - 1#32 + BitVec.ofNat 32 b, tm := ⟨s.pt + BitVec.ofNat 32 a - 1#32, true⟩,
      ip := s.ip - a - b, ms := 6#4, im := false, csi := csi, ti := ti } := by
  have hne : s.pt ≠ 0#32 := by
    intro hzero
    simp [hzero] at hpos
  have hsum : (s.pt + BitVec.ofNat 32 a).toNat = s.pt.toNat + a := count_add_toNat (by omega)
  have hpoll : exec .poll s = .next { s with tm := ⟨s.pt, true⟩, ms := 1#4 } := by
    rw [exec_poll, whenEnabled_of ⟨hflt, his, hms⟩, if_neg hne]
  obtain ⟨csi, ti, hruns⟩ := execAll_isrRuns_after (k := a) hpoll hflt his him (by dsimp only; omega)
    (by dsimp only; omega)
  have hdecrement := execAll_atomicDecrement
    (s := { s with
      tm := ⟨s.pt, true⟩, ms := 1#4, pt := s.pt + BitVec.ofNat 32 a, ip := s.ip - a, csi := csi, ti := ti })
    hflt his rfl (by dsimp only; bv_omega)
  obtain ⟨csi', ti', hruns'⟩ := execAll_isrRuns (k := b)
    (s := { s with
      tm := ⟨s.pt + BitVec.ofNat 32 a - 1#32, true⟩, ms := 6#4, pt := s.pt + BitVec.ofNat 32 a - 1#32, ip := s.ip - a,
      im := false, csi := csi, ti := ti })
    hflt his rfl (by dsimp only; omega) (by dsimp only; bv_omega)
  exact ⟨csi', ti', by rw [execAll_append hruns, execAll_append hdecrement, hruns']⟩

/-- The state after the transaction's second half, but for the counters and what the ISR leaves: the output, the two
debounce steps and the alarm value that they give. -/
def State.adjusted (s : State) (li ld : Bool) (ni nd : Millis) : State :=
  { s with
    out := !s.out
    outPin := ⟨!s.out, true⟩
    per := ((s.pressInc li ni).pressDec ld nd).per
    lvInc := (s.pressInc li ni).lvInc
    laInc := (s.pressInc li ni).laInc
    lvDec := ((s.pressInc li ni).pressDec ld nd).lvDec
    laDec := ((s.pressInc li ni).pressDec ld nd).laDec
    av := ⟨BitVec.ofNat 32 (((s.pressInc li ni).pressDec ld nd).per.toNat * 1000), true⟩
    ar := ⟨true, true⟩
    alarmWr := s.alarmWr + 1
    tc := countAfterSetAlarm Config.setAlarmResetsCount s.tc
    ms := 0#4 }

theorem execAll_adjust {c d e : Nat} (li ld : Bool) (ni nd : Millis) (hflt : s.flt = 0#3) (his : s.is = 0#3)
    (hms : s.ms = 6#4) (him : s.im = false) (hip : c + d + e ≤ s.ip) (hpt : s.pt.toNat + (c + d + e) < 2 ^ 32) :
    ∃ csi ti, execAll
        (.toggle :: isrRuns c ++ (.dbInc li ni :: isrRuns d ++ (.dbDec ld nd :: isrRuns e ++ [.setAlarm]))) s =
      .next { s.adjusted li ld ni nd with
        pt := s.pt + BitVec.ofNat 32 (c + d + e), ip := s.ip - (c + d + e), csi := csi, ti := ti } := by
  have hc : (s.pt + BitVec.ofNat 32 c).toNat = s.pt.toNat + c := count_add_toNat (by omega)
  have hd : (s.pt + BitVec.ofNat 32 c + BitVec.ofNat 32 d).toNat = s.pt.toNat + c + d := by
    rw [count_add_toNat (by omega), hc]
  have htoggle : exec .toggle s = .next { s with out := !s.out, outPin := ⟨!s.out, true⟩, ms := 7#4 } :=
    whenEnabled_of ⟨hflt, his, hms⟩
  obtain ⟨csi, ti, hruns⟩ := execAll_isrRuns_after (k := c) htoggle hflt his him (by dsimp only; omega)
    (by dsimp only; omega)
  have hinc := SamePress.exec_dbInc (s := s)
    (t := { s with
      out := !s.out, outPin := ⟨!s.out, true⟩, ms := 7#4, pt := s.pt + BitVec.ofNat 32 c, ip := s.ip - c, csi := csi,
      ti := ti })
    ⟨rfl, rfl, rfl, rfl, rfl, rfl⟩ ⟨hflt, his, rfl⟩ li ni
  obtain ⟨csi', ti', hruns'⟩ := execAll_isrRuns_after (k := d) hinc hflt his him (by dsimp only; omega)
    (by dsimp only; omega)
  have hdec := SamePress.exec_dbDec (s := s.pressInc li ni)
    (t := { s with
      out := !s.out, outPin := ⟨!s.out, true⟩, pt := s.pt + BitVec.ofNat 32 c + BitVec.ofNat 32 d, ip := s.ip - c - d,
      csi := csi', ti := ti', per := (s.pressInc li ni).per, lvInc := (s.pressInc li ni).lvInc,
      laInc := (s.pressInc li ni).laInc, ms := 8#4 })
    (by rw [State.pressInc_eq]; exact ⟨rfl, rfl, rfl, rfl, rfl, rfl⟩) ⟨hflt, his, rfl⟩ ld nd
  obtain ⟨csi'', ti'', hruns''⟩ := execAll_isrRuns_after (k := e) hdec hflt his him (by dsimp only; omega)
    (by dsimp only; omega)
  refine ⟨csi'', ti'', ?_⟩
  rw [execAll_append hruns, execAll_append hruns', execAll_append hruns'', BitVec.ofNat_add, BitVec.ofNat_add,
    ← BitVec.add_assoc, ← BitVec.add_assoc, ← Nat.sub_sub, ← Nat.sub_sub]
  exact execAll_cons (whenEnabled_of ⟨hflt, his, rfl⟩)

/-- Settles O48: the two halves, with the second's debounce steps read off the state before the transaction. -/
theorem consumeTransactionNetEffect : Obligations.ConsumeTransactionNetEffect := by
  intro s li ld ni nd a b c d e hflt hms his him hpos hip hpt
  obtain ⟨csi, ti, hconsume⟩ := execAll_consume (a := a) (b := b) hflt his hms him hpos (by omega) (by omega)
  have hload : (s.pt + BitVec.ofNat 32 a).toNat = s.pt.toNat + a := count_add_toNat (by omega)
  have hstore : (s.pt + BitVec.ofNat 32 a - 1#32).toNat = s.pt.toNat + a - 1 := by bv_omega
  have hmid : (s.pt + BitVec.ofNat 32 a - 1#32 + BitVec.ofNat 32 b).toNat = s.pt.toNat + a - 1 + b := by
    rw [count_add_toNat (by omega), hstore]
  obtain ⟨csi', ti', hadjust⟩ := execAll_adjust (c := c) (d := d) (e := e) (s := { s with
      pt := s.pt + BitVec.ofNat 32 a - 1#32 + BitVec.ofNat 32 b, tm := ⟨s.pt + BitVec.ofNat 32 a - 1#32, true⟩,
      ip := s.ip - a - b, ms := 6#4, im := false, csi := csi, ti := ti })
    li ld ni nd hflt his rfl rfl (by dsimp only; omega) (by dsimp only; omega)
  have hsame : SamePress s { s with
      pt := s.pt + BitVec.ofNat 32 a - 1#32 + BitVec.ofNat 32 b, tm := ⟨s.pt + BitVec.ofNat 32 a - 1#32, true⟩,
      ip := s.ip - a - b, ms := 6#4, im := false, csi := csi, ti := ti } := ⟨rfl, rfl, rfl, rfl, rfl, rfl⟩
  obtain ⟨-, hlvInc, hlaInc, -⟩ := hsame.pressInc li ni
  obtain ⟨hper, -, -, hlvDec, hlaDec, -⟩ := (hsame.pressInc li ni).pressDec ld nd
  rw [← execAll_append hconsume] at hadjust
  simp only [List.append_assoc, List.cons_append, List.nil_append] at hadjust ⊢
  refine ⟨_, hadjust, rfl, his, hflt, rfl, ?_, ?_, rfl, rfl, ?_, hper, hlvInc, hlaInc, hlvDec, hlaDec, rfl, rfl⟩
  · dsimp only
    rw [count_add_toNat (by omega), hmid]
    omega
  · dsimp only
    omega
  · rw [← hstore, BitVec.ofNat_toNat, BitVec.setWidth_eq]
    rfl

end Sys2Proof.Machine
end

section
/-! PROOF. Runs of the timed refinement read as runs of the untimed unit (R201, R202). -/

namespace Sys2Proof.Machine

open Sys2Proof

variable {s t u : State} {i : Instr} {is rest : List Instr}

/-! ### One instruction -/

/-- No guard but the tick source's own reads the tick source or the timer's count, and nothing else that is kept does. -/
theorem exec_untimed (hustep : i ≠ .ustep) (h : exec i s = .next t) : exec i s.untimed = .next t.untimed := by
  cases i with
  | ustep => exact absurd rfl hustep
  | halt => cases h
  | reset => cases h; rfl
  | dec =>
    obtain ⟨hat, ⟨hzero, rfl⟩ | ⟨hne, rfl⟩⟩ := exec_dec_next h
    · exact (exec_dec_of_zero (s := s.untimed) hzero).trans (whenEnabled_of hat)
    · exact (exec_dec_of_ne (s := s.untimed) hne).trans (whenEnabled_of hat)
  | iInc =>
    obtain ⟨hat, ⟨hmax, rfl⟩ | ⟨hlt, rfl⟩⟩ := exec_iInc_next h
    · exact (exec_iInc_of_max (s := s.untimed) hmax).trans (whenEnabled_of hat)
    · exact (exec_iInc_of_lt (s := s.untimed) hlt).trans (whenEnabled_of hat)
  | initTmr ok =>
    obtain ⟨hat, ⟨rfl, rfl⟩ | ⟨rfl, rfl⟩⟩ := exec_initTmr_next h
    · exact whenEnabled_of (p := s.untimed.MainAt 10#4) hat
    · exact whenEnabled_of (p := s.untimed.MainAt 10#4) hat
  | dbInc lvl now =>
    rw [exec_dbInc, State.pressInc_eq] at h
    obtain ⟨hat, rfl⟩ := whenEnabled_next.mp h
    exact SamePress.exec_dbInc (s := s) (t := s.untimed) ⟨rfl, rfl, rfl, rfl, rfl, rfl⟩ hat lvl now
  | dbDec lvl now =>
    rw [exec_dbDec, State.pressDec_eq] at h
    obtain ⟨hat, rfl⟩ := whenEnabled_next.mp h
    exact SamePress.exec_dbDec (s := s) (t := s.untimed) ⟨rfl, rfl, rfl, rfl, rfl, rfl⟩ hat lvl now
  | alarm =>
    obtain ⟨⟨hen, hflt, -⟩, rfl⟩ := whenEnabled_next.mp h
    exact whenEnabled_of (p := s.untimed.AlarmOpen) ⟨hen, hflt, rfl⟩
  | iEnter =>
    obtain ⟨hat, rfl⟩ := whenEnabled_next.mp h
    exact whenEnabled_of (p := s.untimed.EntryOpen) hat
  | iCsEnter | iLoad | iStore | iCsExit | iRet =>
    obtain ⟨hat, rfl⟩ := whenEnabled_next.mp h
    exact whenEnabled_of (p := s.untimed.IsrAt _) hat
  | poll | csEnter | load | store | csExit | toggle | setAlarm | initAlarm | initEn =>
    obtain ⟨hat, rfl⟩ := whenEnabled_next.mp h
    exact whenEnabled_of (p := s.untimed.MainAt _) hat

/-- A timer tick that fires is an alarm of the untimed unit. -/
theorem exec_alarm_untimed (hfires : s.timerNow.1 = true) (h : exec .ustep s = .next t) :
    exec .alarm s.untimed = .next t.untimed := by
  rw [exec_ustep, State.tick_of_fires hfires] at h
  obtain ⟨⟨hen, hflt, -⟩, rfl⟩ := whenEnabled_next.mp h
  exact whenEnabled_of (p := s.untimed.AlarmOpen) ⟨hen, hflt, rfl⟩

/-- One that does not fire is nothing to the untimed unit. -/
theorem untimed_of_quiet_tick (hquiet : s.timerNow.1 = false) (h : exec .ustep s = .next t) : t.untimed = s.untimed := by
  rw [exec_ustep, State.tick_of_not_fires hquiet] at h
  obtain ⟨-, rfl⟩ := whenEnabled_next.mp h
  rfl

/-- What the untimed unit takes for one instruction of a run. -/
def untimeStep (i : Instr) (s : State) : List Instr :=
  if i = .ustep then if s.timerNow.1 then [.alarm] else [] else [i]

theorem untimeRun_cons (h : exec i s = .next u) : untimeRun (i :: rest) s = untimeStep i s ++ untimeRun rest u := by
  rw [untimeRun, h]
  rfl

theorem execAll_untimeStep (h : exec i s = .next t) : execAll (untimeStep i s) s.untimed = .next t.untimed := by
  unfold untimeStep
  split
  case isTrue hustep =>
    subst hustep
    cases hfires : s.timerNow.1 with
    | true => exact execAll_cons (exec_alarm_untimed hfires h)
    | false => rw [untimed_of_quiet_tick hfires h]; rfl
  case isFalse hustep => exact execAll_cons (exec_untimed hustep h)

theorem exec_keeps_timed (h : exec i s = .next t) : t.timed = s.timed := by
  by_cases hreset : i = .reset
  · subst hreset
    cases h
    rfl
  · obtain ⟨-, -, -, -, -, -, -, -, -, -, -, -, -, -, -, -, htimed, -⟩ := writersOfEachItem i s t h hreset
    exact htimed

/-! ### Runs -/

theorem execAll_untimeRun (h : execAll is s = .next t) : execAll (untimeRun is s) s.untimed = .next t.untimed := by
  induction is generalizing s with
  | nil => cases h; rfl
  | cons i rest ih =>
    obtain ⟨u, hexec, hrest⟩ := execAll_cons_next h
    rw [untimeRun_cons hexec, execAll_append (execAll_untimeStep hexec)]
    exact ih hrest

theorem ustep_not_mem_untimeStep (i : Instr) (s : State) : .ustep ∉ untimeStep i s := by
  unfold untimeStep
  split
  case isTrue => split <;> simp
  case isFalse hustep => simpa using Ne.symm hustep

theorem ustep_not_mem_untimeRun (h : execAll is s = .next t) : .ustep ∉ untimeRun is s := by
  induction is generalizing s with
  | nil => exact List.not_mem_nil
  | cons i rest ih =>
    obtain ⟨u, hexec, hrest⟩ := execAll_cons_next h
    rw [untimeRun_cons hexec, List.mem_append, not_or]
    exact ⟨ustep_not_mem_untimeStep i s, ih hrest⟩

theorem execAll_keeps_timed (h : execAll is s = .next t) : t.timed = s.timed := by
  induction is generalizing s with
  | nil => cases h; rfl
  | cons i rest ih =>
    obtain ⟨u, hexec, hrest⟩ := execAll_cons_next h
    exact (ih hrest).trans (exec_keeps_timed hexec)

/-- Each tick source's step is enabled in its own unit alone (R201). -/
theorem alarm_not_mem_of_timed (htimed : s.timed = true) (h : execAll is s = .next t) : .alarm ∉ is := by
  induction is generalizing s with
  | nil => exact List.not_mem_nil
  | cons i rest ih =>
    obtain ⟨u, hexec, hrest⟩ := execAll_cons_next h
    rw [List.mem_cons, not_or]
    refine ⟨?_, ih ((exec_keeps_timed hexec).trans htimed) hrest⟩
    rintro rfl
    obtain ⟨-, -, huntimed⟩ := enabled_of_exec_next hexec
    simp [htimed] at huntimed

theorem untimeRun_of_untimed (htimed : s.timed = false) (h : execAll is s = .next t) :
    .ustep ∉ is ∧ untimeRun is s = is := by
  induction is generalizing s with
  | nil => exact ⟨List.not_mem_nil, rfl⟩
  | cons i rest ih =>
    obtain ⟨u, hexec, hrest⟩ := execAll_cons_next h
    obtain ⟨hmem, hrun⟩ := ih ((exec_keeps_timed hexec).trans htimed) hrest
    have hi : i ≠ .ustep := by
      rintro rfl
      obtain ⟨-, -, htrue⟩ := enabled_of_exec_next hexec
      simp [htimed] at htrue
    rw [List.mem_cons, not_or, untimeRun_cons hexec, untimeStep, if_neg hi, hrun]
    exact ⟨⟨hi.symm, hmem⟩, rfl⟩

/-- Settles O15: instruction by instruction along the run. -/
theorem timedRunsAreUntimedRuns : Obligations.TimedRunsAreUntimedRuns := fun _ _ _ h =>
  ⟨execAll_untimeRun h, ustep_not_mem_untimeRun h, execAll_keeps_timed h, fun htimed => alarm_not_mem_of_timed htimed h,
    fun htimed => untimeRun_of_untimed htimed h⟩

end Sys2Proof.Machine
end

section
/-! PROOF. Arithmetic of the clock, of the half-period and of the timer (R45, R102, R165, R168, R170). -/

namespace Sys2Proof.Machine

open Sys2Proof

variable {s : State}

/-! ### The clock (R45, R170) -/

theorem trueTime_mono : Monotone trueTime := monotone_nat_of_le_succ fun n => Nat.le_add_right (trueTime n) _

/-- Settles O18: each free step adds an advance, and the sample has 32 bits. -/
theorem trueTimeNeverDecreases : Obligations.TrueTimeNeverDecreases :=
  fun _ k hjk => ⟨trueTime_mono hjk, BitVec.toNat_ofNat (trueTime k) 32⟩

/-- The elapsed time is the true one modulo `2^32`, wherever the clock wrapped. -/
theorem elapsed_of_times {t0 t1 : Nat} (h : t0 ≤ t1) :
    elapsed Config.params (BitVec.ofNat 32 t1) (BitVec.ofNat 32 t0) = (t1 - t0) % 2 ^ 32 := by
  rw [elapsed_params, millis_sub_toNat, BitVec.toNat_ofNat, BitVec.toNat_ofNat]
  omega

theorem elapsed_of_aliased_gap (t : Nat) :
    elapsed Config.params (BitVec.ofNat 32 (t + 2 ^ 32 + 100)) (BitVec.ofNat 32 t) = 100 := by
  rw [elapsed_of_times (by omega)]
  omega

/-- Settles O41: the elapsed time modulo `2^32`, and the window asked of it only after a first press. -/
theorem elapsedAcrossClockWrap : Obligations.ElapsedAcrossClockWrap := by
  refine ⟨fun t0 t1 h => ⟨elapsed_of_times h, fun hlt => ?_⟩, fun t => ⟨elapsed_of_aliased_gap t, ?_⟩,
    fun la now => (accepts_params _ _ _ _).mpr ⟨rfl, .inl rfl⟩, by decide, by decide⟩
  · rw [elapsed_of_times h, Nat.mod_eq_of_lt hlt]
  · have hgap := elapsed_of_aliased_gap t
    rw [elapsed_params] at hgap
    exact accepts_params_eq_false (by rw [hgap]; simp)

/-! ### The steps of the half-period (R165, R168) -/

/-- The guard keeps the natural subtraction exact, so the step is the integer `max`. -/
theorem shorten_eq_max (p : Params) (per : Nat) : (shorten p per : Int) = max ((per : Int) - p.stepMs) p.floorMs := by
  unfold shorten
  split <;> omega

theorem lengthen_eq_min (p : Params) (per : Nat) : lengthen p per = min (per + p.stepMs) p.ceilMs := by
  unfold lengthen
  split <;> omega

/-- The register holds each step exactly: 65485 is the largest value that shortening gives, 2000 that lengthening does. -/
theorem toPeriod_shorten_toNat (per : Period) :
    (toPeriod (shorten Config.params per.toNat)).toNat = shorten Config.params per.toNat := by
  have hmax : (shorten Config.params per.toNat : Int) = max ((per.toNat : Int) - 50) 100 := shorten_eq_max _ _
  exact toPeriod_toNat (by have := per.isLt; omega)

theorem toPeriod_lengthen_toNat (per : Period) :
    (toPeriod (lengthen Config.params per.toNat)).toNat = lengthen Config.params per.toNat := by
  have hmin : lengthen Config.params per.toNat = min (per.toNat + 50) 2000 := lengthen_eq_min _ _
  exact toPeriod_toNat (by omega)

/-- Settles O42: every clause is read off the two equations. -/
theorem periodStepsClamp : Obligations.PeriodStepsClamp := by
  refine ⟨fun p per ⟨_, hfloor, hceil, _⟩ => ⟨shorten_eq_max p per, lengthen_eq_min p per, fun hlow hhigh => ?_, ?_, ?_,
    fun h => if_pos h, fun h => if_pos h⟩, by decide,
    fun per => ⟨toPeriod_shorten_toNat per, toPeriod_lengthen_toNat per⟩⟩
  · have hmax := shorten_eq_max p per
    have hmin := lengthen_eq_min p per
    omega
  · have hmax := shorten_eq_max p p.floorMs
    omega
  · have hmin := lengthen_eq_min p p.ceilMs
    omega

theorem exec_dbInc_of_accepts {lvl : Bool} {now : Millis} (hat : s.MainAt 7#4)
    (h : accepts Config.params s.lvInc s.readLaInc lvl now = true) :
    exec (.dbInc lvl now) s = .next { s with
      lvInc := true, laInc := ⟨now, true⟩, per := toPeriod (shorten Config.params s.per.toNat), ms := 8#4 } := by
  rw [exec_dbInc, State.pressInc, if_pos h, whenEnabled_of hat]
  rfl

theorem exec_dbDec_of_accepts {lvl : Bool} {now : Millis} (hat : s.MainAt 8#4)
    (h : accepts Config.params s.lvDec s.readLaDec lvl now = true) :
    exec (.dbDec lvl now) s = .next { s with
      lvDec := true, laDec := ⟨now, true⟩, per := toPeriod (lengthen Config.params s.per.toNat), ms := 9#4 } := by
  rw [exec_dbDec, State.pressDec, if_pos h, whenEnabled_of hat]
  rfl

/-- Both steps, Increase first, on numbers. -/
theorem pressed_twice_toNat (per : Period) :
    (toPeriod (lengthen Config.params (toPeriod (shorten Config.params per.toNat)).toNat)).toNat =
      min (max (per.toNat - 50) 100 + 50) 2000 := by
  have hmax : (shorten Config.params per.toNat : Int) = max ((per.toNat : Int) - 50) 100 := shorten_eq_max _ _
  have hmin (q : Nat) : lengthen Config.params q = min (q + 50) 2000 := lengthen_eq_min _ _
  rw [toPeriod_lengthen_toNat, toPeriod_shorten_toNat, hmin]
  omega

/-- Settles O43: DB_INC's and DB_DEC's accepted answers one after the other. -/
theorem simultaneousPressesApplyBoth : Obligations.SimultaneousPressesApplyBoth := by
  refine ⟨fun s n m hflt his hms hinc hdec => ?_, rfl, rfl, rfl⟩
  have hfirst := exec_dbInc_of_accepts ⟨hflt, his, hms⟩ ((accepts_params _ _ _ _).mpr ⟨rfl, hinc⟩)
  have hsecond := exec_dbDec_of_accepts
    (s := { s with
      lvInc := true, laInc := ⟨n, true⟩, per := toPeriod (shorten Config.params s.per.toNat), ms := 8#4 })
    ⟨hflt, his, rfl⟩ ((accepts_params _ _ _ _).mpr ⟨rfl, hdec⟩)
  have hper := pressed_twice_toNat s.per
  refine ⟨_, (execAll_cons hfirst).trans (execAll_cons hsecond), hper, fun hlow hhigh => ?_, fun hfloor => ?_, rfl, rfl,
    rfl, rfl, rfl⟩
  · exact BitVec.eq_of_toNat_eq (hper.trans (by omega))
  · rw [hfloor]
    rfl

/-! ### The timer (R102) -/

/-- Settles O44: by induction on the ticks; the count moves by one until it reaches the alarm value, fires and reloads. -/
theorem alarmPeriodIsAlarmValue : Obligations.AlarmPeriodIsAlarmValue := by
  intro width av tc n hav hwidth htc
  induction n generalizing tc with
  | zero => exact (Nat.div_eq_of_lt htc).symm
  | succ n ih =>
    have hcount : nextCount width tc = tc + 1 := Nat.mod_eq_of_lt (by omega)
    by_cases hfires : av ≤ tc + 1
    · have htick : timerTick .ge width av true tc = (true, 0) := by
        simp [timerTick, hcount, alarmFires, hfires, reloadCount]
      have htotal : tc + (n + 1) = n + av := by omega
      rw [firings, htick, ih 0 hav, htotal, Nat.add_div_right n hav]
      simp only [if_true, Nat.zero_add]
      omega
    · have htick : timerTick .ge width av true tc = (false, tc + 1) := by
        simp [timerTick, hcount, alarmFires, hfires]
      rw [firings, htick, ih (tc + 1) (by omega)]
      simp only [Bool.false_eq_true, if_false, Nat.zero_add]
      congr 1; omega

end Sys2Proof.Machine
end
